-- ==== Sys2Proof/Word.lean ====
section
/-! DEFINITION. The word types of the block (R6): a byte is 8 bits, an address is 16 bits. -/

namespace Sys2Proof

/-- A register A, X, Y, S or a memory cell: 8 bits (R20, R21, R29). -/
abbrev Byte := BitVec 8

/-- An address, the program counter or a 16-bit operand: 16 bits (R22, R50). -/
abbrev Word := BitVec 16

end Sys2Proof
end

