-- ==== Sys2Proof/Config.lean ====
section
/-! DEFINITION. The implementation parameters of R5 that are single values. `OPCODE_MAP` and `CYCLE_TABLE` are the
registry of Decode.lean; `mem0` is the argument of `State.resetOver` (R33, log 2); `DECIMAL_ARITH` is fixed false (R123, D10) and so has no
definition; `END_OF_RUN` is an argument of `runUntil` (D27). -/

namespace Sys2Proof

/-- Number of memory cells (R50). -/
def Config.memorySize : Nat := 65536

/-- What a cell that the memory list does not hold reads as. DESIGN CHOICE (log 2): a representation of `mem0`, which
`State.resetOver` takes as an argument; unsafe only for claims about cells of `State.reset` itself. -/
def Config.unlistedCell : Byte := 0x00

/-- `RESET_VECTOR`: low byte here, high byte at the next address (R5, R32; the address is D3, log 8). -/
def Config.resetVector : Word := 0xFFFC

/-- The BRK vector: low byte here, high byte at the next address (R5, R220). -/
def Config.breakVector : Word := 0xFFFE

/-- First address of the stack page (R5, R21). -/
def Config.stackPage : Word := 0x0100

/-- `P5_PUSH`: bit 5 of a pushed flags byte (R5, R24; D2, log 6). -/
def Config.p5Push : Bool := true

/-- Reset value of S (R5, R32). -/
def Config.resetSp : Byte := 0xFD

end Sys2Proof
end

