-- ==== Sys2Proof/Syntax.lean ====
section
/-! DEFINITION. The instruction set as syntax: one constructor of `Instr` for each legal row of opcode_table.json (a
mnemonic with one addressing mode, R84), with the operand bytes that follow the opcode as its argument, and the one
illegal descriptor of R85 for the table's 105 `ILLEGAL` rows (log 20). A constructor's suffix is the mode: Acc, Imm, Zp,
ZpX, ZpY, Abs, AbsX, AbsY, Ind, IndX for `(zp,X)`, IndY for `(zp),Y`; Implicit and Relative have none. -/

namespace Sys2Proof

/-- The addressing-mode tag of a registry entry (R81), and the tag of the illegal descriptor (R85). -/
inductive Mode where
  | implicit | accumulator | immediate | zeroPage | zeroPageX | zeroPageY | relative
  | absolute | absoluteX | absoluteY | indirect | indexedIndirectX | indirectIndexedY
  | illegal
deriving DecidableEq, Repr

/-- When a registry entry adds one cycle to its base count (R83, R276). -/
inductive ExtraCycle where
  | none
  | page
  | branch
deriving DecidableEq, Repr

/-- An instruction. `Byte` arguments are `operand8`, `Word` arguments `operand16` (R82). -/
inductive Instr where
  /-- ADC Immediate, opcode 0x69 (R120, R102). -/
  | adcImm (v : Byte)
  /-- ADC ZeroPage, opcode 0x65 (R120, R104). -/
  | adcZp (a : Byte)
  /-- ADC ZeroPageX, opcode 0x75 (R120, R105). -/
  | adcZpX (a : Byte)
  /-- ADC Absolute, opcode 0x6D (R120, R108). -/
  | adcAbs (a : Word)
  /-- ADC AbsoluteX, opcode 0x7D (R120, R109). -/
  | adcAbsX (a : Word)
  /-- ADC AbsoluteY, opcode 0x79 (R120, R110). -/
  | adcAbsY (a : Word)
  /-- ADC IndexedIndirectX, opcode 0x61 (R120, R112). -/
  | adcIndX (a : Byte)
  /-- ADC IndirectIndexedY, opcode 0x71 (R120, R113). -/
  | adcIndY (a : Byte)
  /-- SBC Immediate, opcode 0xE9 (R121, R102). -/
  | sbcImm (v : Byte)
  /-- SBC ZeroPage, opcode 0xE5 (R121, R104). -/
  | sbcZp (a : Byte)
  /-- SBC ZeroPageX, opcode 0xF5 (R121, R105). -/
  | sbcZpX (a : Byte)
  /-- SBC Absolute, opcode 0xED (R121, R108). -/
  | sbcAbs (a : Word)
  /-- SBC AbsoluteX, opcode 0xFD (R121, R109). -/
  | sbcAbsX (a : Word)
  /-- SBC AbsoluteY, opcode 0xF9 (R121, R110). -/
  | sbcAbsY (a : Word)
  /-- SBC IndexedIndirectX, opcode 0xE1 (R121, R112). -/
  | sbcIndX (a : Byte)
  /-- SBC IndirectIndexedY, opcode 0xF1 (R121, R113). -/
  | sbcIndY (a : Byte)
  /-- AND Immediate, opcode 0x29 (R130, R102). -/
  | andImm (v : Byte)
  /-- AND ZeroPage, opcode 0x25 (R130, R104). -/
  | andZp (a : Byte)
  /-- AND ZeroPageX, opcode 0x35 (R130, R105). -/
  | andZpX (a : Byte)
  /-- AND Absolute, opcode 0x2D (R130, R108). -/
  | andAbs (a : Word)
  /-- AND AbsoluteX, opcode 0x3D (R130, R109). -/
  | andAbsX (a : Word)
  /-- AND AbsoluteY, opcode 0x39 (R130, R110). -/
  | andAbsY (a : Word)
  /-- AND IndexedIndirectX, opcode 0x21 (R130, R112). -/
  | andIndX (a : Byte)
  /-- AND IndirectIndexedY, opcode 0x31 (R130, R113). -/
  | andIndY (a : Byte)
  /-- ORA Immediate, opcode 0x09 (R131, R102). -/
  | oraImm (v : Byte)
  /-- ORA ZeroPage, opcode 0x05 (R131, R104). -/
  | oraZp (a : Byte)
  /-- ORA ZeroPageX, opcode 0x15 (R131, R105). -/
  | oraZpX (a : Byte)
  /-- ORA Absolute, opcode 0x0D (R131, R108). -/
  | oraAbs (a : Word)
  /-- ORA AbsoluteX, opcode 0x1D (R131, R109). -/
  | oraAbsX (a : Word)
  /-- ORA AbsoluteY, opcode 0x19 (R131, R110). -/
  | oraAbsY (a : Word)
  /-- ORA IndexedIndirectX, opcode 0x01 (R131, R112). -/
  | oraIndX (a : Byte)
  /-- ORA IndirectIndexedY, opcode 0x11 (R131, R113). -/
  | oraIndY (a : Byte)
  /-- EOR Immediate, opcode 0x49 (R132, R102). -/
  | eorImm (v : Byte)
  /-- EOR ZeroPage, opcode 0x45 (R132, R104). -/
  | eorZp (a : Byte)
  /-- EOR ZeroPageX, opcode 0x55 (R132, R105). -/
  | eorZpX (a : Byte)
  /-- EOR Absolute, opcode 0x4D (R132, R108). -/
  | eorAbs (a : Word)
  /-- EOR AbsoluteX, opcode 0x5D (R132, R109). -/
  | eorAbsX (a : Word)
  /-- EOR AbsoluteY, opcode 0x59 (R132, R110). -/
  | eorAbsY (a : Word)
  /-- EOR IndexedIndirectX, opcode 0x41 (R132, R112). -/
  | eorIndX (a : Byte)
  /-- EOR IndirectIndexedY, opcode 0x51 (R132, R113). -/
  | eorIndY (a : Byte)
  /-- BIT ZeroPage, opcode 0x24 (R133, R104). -/
  | bitZp (a : Byte)
  /-- BIT Absolute, opcode 0x2C (R133, R108). -/
  | bitAbs (a : Word)
  /-- ASL Accumulator, opcode 0x0A (R140, R103). -/
  | aslAcc
  /-- ASL ZeroPage, opcode 0x06 (R140, R104). -/
  | aslZp (a : Byte)
  /-- ASL ZeroPageX, opcode 0x16 (R140, R105). -/
  | aslZpX (a : Byte)
  /-- ASL Absolute, opcode 0x0E (R140, R108). -/
  | aslAbs (a : Word)
  /-- ASL AbsoluteX, opcode 0x1E (R140, R109). -/
  | aslAbsX (a : Word)
  /-- LSR Accumulator, opcode 0x4A (R141, R103). -/
  | lsrAcc
  /-- LSR ZeroPage, opcode 0x46 (R141, R104). -/
  | lsrZp (a : Byte)
  /-- LSR ZeroPageX, opcode 0x56 (R141, R105). -/
  | lsrZpX (a : Byte)
  /-- LSR Absolute, opcode 0x4E (R141, R108). -/
  | lsrAbs (a : Word)
  /-- LSR AbsoluteX, opcode 0x5E (R141, R109). -/
  | lsrAbsX (a : Word)
  /-- ROL Accumulator, opcode 0x2A (R142, R103). -/
  | rolAcc
  /-- ROL ZeroPage, opcode 0x26 (R142, R104). -/
  | rolZp (a : Byte)
  /-- ROL ZeroPageX, opcode 0x36 (R142, R105). -/
  | rolZpX (a : Byte)
  /-- ROL Absolute, opcode 0x2E (R142, R108). -/
  | rolAbs (a : Word)
  /-- ROL AbsoluteX, opcode 0x3E (R142, R109). -/
  | rolAbsX (a : Word)
  /-- ROR Accumulator, opcode 0x6A (R143, R103). -/
  | rorAcc
  /-- ROR ZeroPage, opcode 0x66 (R143, R104). -/
  | rorZp (a : Byte)
  /-- ROR ZeroPageX, opcode 0x76 (R143, R105). -/
  | rorZpX (a : Byte)
  /-- ROR Absolute, opcode 0x6E (R143, R108). -/
  | rorAbs (a : Word)
  /-- ROR AbsoluteX, opcode 0x7E (R143, R109). -/
  | rorAbsX (a : Word)
  /-- CMP Immediate, opcode 0xC9 (R150, R102). -/
  | cmpImm (v : Byte)
  /-- CMP ZeroPage, opcode 0xC5 (R150, R104). -/
  | cmpZp (a : Byte)
  /-- CMP ZeroPageX, opcode 0xD5 (R150, R105). -/
  | cmpZpX (a : Byte)
  /-- CMP Absolute, opcode 0xCD (R150, R108). -/
  | cmpAbs (a : Word)
  /-- CMP AbsoluteX, opcode 0xDD (R150, R109). -/
  | cmpAbsX (a : Word)
  /-- CMP AbsoluteY, opcode 0xD9 (R150, R110). -/
  | cmpAbsY (a : Word)
  /-- CMP IndexedIndirectX, opcode 0xC1 (R150, R112). -/
  | cmpIndX (a : Byte)
  /-- CMP IndirectIndexedY, opcode 0xD1 (R150, R113). -/
  | cmpIndY (a : Byte)
  /-- CPX Immediate, opcode 0xE0 (R151, R102). -/
  | cpxImm (v : Byte)
  /-- CPX ZeroPage, opcode 0xE4 (R151, R104). -/
  | cpxZp (a : Byte)
  /-- CPX Absolute, opcode 0xEC (R151, R108). -/
  | cpxAbs (a : Word)
  /-- CPY Immediate, opcode 0xC0 (R152, R102). -/
  | cpyImm (v : Byte)
  /-- CPY ZeroPage, opcode 0xC4 (R152, R104). -/
  | cpyZp (a : Byte)
  /-- CPY Absolute, opcode 0xCC (R152, R108). -/
  | cpyAbs (a : Word)
  /-- INC ZeroPage, opcode 0xE6 (R160, R104). -/
  | incZp (a : Byte)
  /-- INC ZeroPageX, opcode 0xF6 (R160, R105). -/
  | incZpX (a : Byte)
  /-- INC Absolute, opcode 0xEE (R160, R108). -/
  | incAbs (a : Word)
  /-- INC AbsoluteX, opcode 0xFE (R160, R109). -/
  | incAbsX (a : Word)
  /-- DEC ZeroPage, opcode 0xC6 (R161, R104). -/
  | decZp (a : Byte)
  /-- DEC ZeroPageX, opcode 0xD6 (R161, R105). -/
  | decZpX (a : Byte)
  /-- DEC Absolute, opcode 0xCE (R161, R108). -/
  | decAbs (a : Word)
  /-- DEC AbsoluteX, opcode 0xDE (R161, R109). -/
  | decAbsX (a : Word)
  /-- INX Implicit, opcode 0xE8 (R162, R101). -/
  | inx
  /-- DEX Implicit, opcode 0xCA (R163, R101). -/
  | dex
  /-- INY Implicit, opcode 0xC8 (R164, R101). -/
  | iny
  /-- DEY Implicit, opcode 0x88 (R165, R101). -/
  | dey
  /-- LDA Immediate, opcode 0xA9 (R170, R102). -/
  | ldaImm (v : Byte)
  /-- LDA ZeroPage, opcode 0xA5 (R170, R104). -/
  | ldaZp (a : Byte)
  /-- LDA ZeroPageX, opcode 0xB5 (R170, R105). -/
  | ldaZpX (a : Byte)
  /-- LDA Absolute, opcode 0xAD (R170, R108). -/
  | ldaAbs (a : Word)
  /-- LDA AbsoluteX, opcode 0xBD (R170, R109). -/
  | ldaAbsX (a : Word)
  /-- LDA AbsoluteY, opcode 0xB9 (R170, R110). -/
  | ldaAbsY (a : Word)
  /-- LDA IndexedIndirectX, opcode 0xA1 (R170, R112). -/
  | ldaIndX (a : Byte)
  /-- LDA IndirectIndexedY, opcode 0xB1 (R170, R113). -/
  | ldaIndY (a : Byte)
  /-- LDX Immediate, opcode 0xA2 (R171, R102). -/
  | ldxImm (v : Byte)
  /-- LDX ZeroPage, opcode 0xA6 (R171, R104). -/
  | ldxZp (a : Byte)
  /-- LDX ZeroPageY, opcode 0xB6 (R171, R106). -/
  | ldxZpY (a : Byte)
  /-- LDX Absolute, opcode 0xAE (R171, R108). -/
  | ldxAbs (a : Word)
  /-- LDX AbsoluteY, opcode 0xBE (R171, R110). -/
  | ldxAbsY (a : Word)
  /-- LDY Immediate, opcode 0xA0 (R172, R102). -/
  | ldyImm (v : Byte)
  /-- LDY ZeroPage, opcode 0xA4 (R172, R104). -/
  | ldyZp (a : Byte)
  /-- LDY ZeroPageX, opcode 0xB4 (R172, R105). -/
  | ldyZpX (a : Byte)
  /-- LDY Absolute, opcode 0xAC (R172, R108). -/
  | ldyAbs (a : Word)
  /-- LDY AbsoluteX, opcode 0xBC (R172, R109). -/
  | ldyAbsX (a : Word)
  /-- STA ZeroPage, opcode 0x85 (R173, R104). -/
  | staZp (a : Byte)
  /-- STA ZeroPageX, opcode 0x95 (R173, R105). -/
  | staZpX (a : Byte)
  /-- STA Absolute, opcode 0x8D (R173, R108). -/
  | staAbs (a : Word)
  /-- STA AbsoluteX, opcode 0x9D (R173, R109). -/
  | staAbsX (a : Word)
  /-- STA AbsoluteY, opcode 0x99 (R173, R110). -/
  | staAbsY (a : Word)
  /-- STA IndexedIndirectX, opcode 0x81 (R173, R112). -/
  | staIndX (a : Byte)
  /-- STA IndirectIndexedY, opcode 0x91 (R173, R113). -/
  | staIndY (a : Byte)
  /-- STX ZeroPage, opcode 0x86 (R174, R104). -/
  | stxZp (a : Byte)
  /-- STX ZeroPageY, opcode 0x96 (R174, R106). -/
  | stxZpY (a : Byte)
  /-- STX Absolute, opcode 0x8E (R174, R108). -/
  | stxAbs (a : Word)
  /-- STY ZeroPage, opcode 0x84 (R175, R104). -/
  | styZp (a : Byte)
  /-- STY ZeroPageX, opcode 0x94 (R175, R105). -/
  | styZpX (a : Byte)
  /-- STY Absolute, opcode 0x8C (R175, R108). -/
  | styAbs (a : Word)
  /-- TAX Implicit, opcode 0xAA (R180, R101). -/
  | tax
  /-- TXA Implicit, opcode 0x8A (R181, R101). -/
  | txa
  /-- TAY Implicit, opcode 0xA8 (R182, R101). -/
  | tay
  /-- TYA Implicit, opcode 0x98 (R183, R101). -/
  | tya
  /-- TSX Implicit, opcode 0xBA (R184, R101). -/
  | tsx
  /-- TXS Implicit, opcode 0x9A (R185, R101). -/
  | txs
  /-- PHA Implicit, opcode 0x48 (R186, R101). -/
  | pha
  /-- PLA Implicit, opcode 0x68 (R187, R101). -/
  | pla
  /-- PHP Implicit, opcode 0x08 (R188, R101). -/
  | php
  /-- PLP Implicit, opcode 0x28 (R189, R101). -/
  | plp
  /-- BCC Relative, opcode 0x90 (R201, R107). -/
  | bcc (off : Byte)
  /-- BCS Relative, opcode 0xB0 (R202, R107). -/
  | bcs (off : Byte)
  /-- BEQ Relative, opcode 0xF0 (R203, R107). -/
  | beq (off : Byte)
  /-- BNE Relative, opcode 0xD0 (R204, R107). -/
  | bne (off : Byte)
  /-- BPL Relative, opcode 0x10 (R205, R107). -/
  | bpl (off : Byte)
  /-- BMI Relative, opcode 0x30 (R206, R107). -/
  | bmi (off : Byte)
  /-- BVC Relative, opcode 0x50 (R207, R107). -/
  | bvc (off : Byte)
  /-- BVS Relative, opcode 0x70 (R208, R107). -/
  | bvs (off : Byte)
  /-- JMP Absolute, opcode 0x4C (R209, R108). -/
  | jmpAbs (a : Word)
  /-- JMP Indirect, opcode 0x6C (R209, R111). -/
  | jmpInd (p : Word)
  /-- JSR Absolute, opcode 0x20 (R210, R108). -/
  | jsr (a : Word)
  /-- RTS Implicit, opcode 0x60 (R211, R101). -/
  | rts
  /-- BRK Implicit, opcode 0x00 (R220, R101). -/
  | brk
  /-- RTI Implicit, opcode 0x40 (R221, R101). -/
  | rti
  /-- CLC Implicit, opcode 0x18 (R222, R101). -/
  | clc
  /-- SEC Implicit, opcode 0x38 (R223, R101). -/
  | sec
  /-- CLI Implicit, opcode 0x58 (R224, R101). -/
  | cli
  /-- SEI Implicit, opcode 0x78 (R225, R101). -/
  | sei
  /-- CLV Implicit, opcode 0xB8 (R226, R101). -/
  | clv
  /-- CLD Implicit, opcode 0xD8 (R227, R101). -/
  | cld
  /-- SED Implicit, opcode 0xF8 (R228, R101). -/
  | sed
  /-- NOP Implicit, opcode 0xEA (R229, R101). -/
  | nop
  /-- One of the 105 byte values with the illegal descriptor (R85, R241). -/
  | illegal (op : Byte)
deriving DecidableEq, Repr

end Sys2Proof
end

