-- ==== Sys2Proof/Decode.lean ====
section
/-! DEFINITION. The instruction registry (R83, R84, R85), the decoder as a lookup of the whole opcode byte (R80), the
encoder, and the byte-order helpers (R52, R82). The opcode bytes and cycle numbers are the spec's (D17, D18; logs 5, 14). -/

namespace Sys2Proof

/-- `(hi:lo)` of R6: a little-endian pair as a 16-bit value, low byte first (R52). -/
def wordOfBytes (lo hi : Byte) : Word := hi ++ lo

/-- `w[7:0]` of R6. -/
def loByte (w : Word) : Byte := w.setWidth 8

/-- `w[15:8]` of R6, which is also the page of an address (R9). -/
def hiByte (w : Word) : Byte := w.extractLsb' 8 8

/-- The two operand bytes of a 16-bit operand as they lie in memory (R52, R81). -/
def wordBytes (w : Word) : List Byte := [loByte w, hiByte w]

/-- Operand bytes after the opcode, by mode (R81). -/
def Mode.operandBytes : Mode → Nat
  | .implicit | .accumulator | .illegal => 0
  | .immediate | .zeroPage | .zeroPageX | .zeroPageY | .relative | .indexedIndirectX | .indirectIndexedY => 1
  | .absolute | .absoluteX | .absoluteY | .indirect => 2

/-- What the operand bytes of a registry entry make of it. -/
inductive Build where
  | noOperand (i : Instr)
  | operand8 (f : Byte → Instr)
  | operand16 (f : Word → Instr)

/-- Operand bytes that a `Build` consumes. -/
def Build.arity : Build → Nat
  | .noOperand _ => 0
  | .operand8 _ => 1
  | .operand16 _ => 2

/-- The instruction a `Build` makes of the two bytes after the opcode; a byte beyond its arity is not used (R82). -/
def Build.instr : Build → Byte → Byte → Instr
  | .noOperand i, _, _ => i
  | .operand8 f, b1, _ => f b1
  | .operand16 f, b1, b2 => f (wordOfBytes b1 b2)

/-- One registry entry: mnemonic name, addressing-mode tag, base cycle count, extra-cycle rule, instruction (R83). -/
structure Descriptor where
  mnemonic : String
  mode : Mode
  cycles : Nat
  extra : ExtraCycle
  build : Build

/-- The explicit 'illegal opcode' descriptor (R85). -/
def illegalDescriptor (op : Byte) : Descriptor := ⟨"ILLEGAL", .illegal, 0, .none, .noOperand (.illegal op)⟩

/-- Opcodes 0x00 to 0x0F of the map of R84. -/
def registryRow0 : List Descriptor :=
  [
   ⟨"BRK", .implicit, 7, .none, .noOperand .brk⟩,
   ⟨"ORA", .indexedIndirectX, 6, .none, .operand8 .oraIndX⟩,
   illegalDescriptor 0x02,
   illegalDescriptor 0x03,
   illegalDescriptor 0x04,
   ⟨"ORA", .zeroPage, 3, .none, .operand8 .oraZp⟩,
   ⟨"ASL", .zeroPage, 5, .none, .operand8 .aslZp⟩,
   illegalDescriptor 0x07,
   ⟨"PHP", .implicit, 3, .none, .noOperand .php⟩,
   ⟨"ORA", .immediate, 2, .none, .operand8 .oraImm⟩,
   ⟨"ASL", .accumulator, 2, .none, .noOperand .aslAcc⟩,
   illegalDescriptor 0x0B,
   illegalDescriptor 0x0C,
   ⟨"ORA", .absolute, 4, .none, .operand16 .oraAbs⟩,
   ⟨"ASL", .absolute, 6, .none, .operand16 .aslAbs⟩,
   illegalDescriptor 0x0F
  ]

/-- Opcodes 0x10 to 0x1F of the map of R84. -/
def registryRow1 : List Descriptor :=
  [
   ⟨"BPL", .relative, 2, .branch, .operand8 .bpl⟩,
   ⟨"ORA", .indirectIndexedY, 5, .page, .operand8 .oraIndY⟩,
   illegalDescriptor 0x12,
   illegalDescriptor 0x13,
   illegalDescriptor 0x14,
   ⟨"ORA", .zeroPageX, 4, .none, .operand8 .oraZpX⟩,
   ⟨"ASL", .zeroPageX, 6, .none, .operand8 .aslZpX⟩,
   illegalDescriptor 0x17,
   ⟨"CLC", .implicit, 2, .none, .noOperand .clc⟩,
   ⟨"ORA", .absoluteY, 4, .page, .operand16 .oraAbsY⟩,
   illegalDescriptor 0x1A,
   illegalDescriptor 0x1B,
   illegalDescriptor 0x1C,
   ⟨"ORA", .absoluteX, 4, .page, .operand16 .oraAbsX⟩,
   ⟨"ASL", .absoluteX, 7, .none, .operand16 .aslAbsX⟩,
   illegalDescriptor 0x1F
  ]

/-- Opcodes 0x20 to 0x2F of the map of R84. -/
def registryRow2 : List Descriptor :=
  [
   ⟨"JSR", .absolute, 6, .none, .operand16 .jsr⟩,
   ⟨"AND", .indexedIndirectX, 6, .none, .operand8 .andIndX⟩,
   illegalDescriptor 0x22,
   illegalDescriptor 0x23,
   ⟨"BIT", .zeroPage, 3, .none, .operand8 .bitZp⟩,
   ⟨"AND", .zeroPage, 3, .none, .operand8 .andZp⟩,
   ⟨"ROL", .zeroPage, 5, .none, .operand8 .rolZp⟩,
   illegalDescriptor 0x27,
   ⟨"PLP", .implicit, 4, .none, .noOperand .plp⟩,
   ⟨"AND", .immediate, 2, .none, .operand8 .andImm⟩,
   ⟨"ROL", .accumulator, 2, .none, .noOperand .rolAcc⟩,
   illegalDescriptor 0x2B,
   ⟨"BIT", .absolute, 4, .none, .operand16 .bitAbs⟩,
   ⟨"AND", .absolute, 4, .none, .operand16 .andAbs⟩,
   ⟨"ROL", .absolute, 6, .none, .operand16 .rolAbs⟩,
   illegalDescriptor 0x2F
  ]

/-- Opcodes 0x30 to 0x3F of the map of R84. -/
def registryRow3 : List Descriptor :=
  [
   ⟨"BMI", .relative, 2, .branch, .operand8 .bmi⟩,
   ⟨"AND", .indirectIndexedY, 5, .page, .operand8 .andIndY⟩,
   illegalDescriptor 0x32,
   illegalDescriptor 0x33,
   illegalDescriptor 0x34,
   ⟨"AND", .zeroPageX, 4, .none, .operand8 .andZpX⟩,
   ⟨"ROL", .zeroPageX, 6, .none, .operand8 .rolZpX⟩,
   illegalDescriptor 0x37,
   ⟨"SEC", .implicit, 2, .none, .noOperand .sec⟩,
   ⟨"AND", .absoluteY, 4, .page, .operand16 .andAbsY⟩,
   illegalDescriptor 0x3A,
   illegalDescriptor 0x3B,
   illegalDescriptor 0x3C,
   ⟨"AND", .absoluteX, 4, .page, .operand16 .andAbsX⟩,
   ⟨"ROL", .absoluteX, 7, .none, .operand16 .rolAbsX⟩,
   illegalDescriptor 0x3F
  ]

/-- Opcodes 0x40 to 0x4F of the map of R84. -/
def registryRow4 : List Descriptor :=
  [
   ⟨"RTI", .implicit, 6, .none, .noOperand .rti⟩,
   ⟨"EOR", .indexedIndirectX, 6, .none, .operand8 .eorIndX⟩,
   illegalDescriptor 0x42,
   illegalDescriptor 0x43,
   illegalDescriptor 0x44,
   ⟨"EOR", .zeroPage, 3, .none, .operand8 .eorZp⟩,
   ⟨"LSR", .zeroPage, 5, .none, .operand8 .lsrZp⟩,
   illegalDescriptor 0x47,
   ⟨"PHA", .implicit, 3, .none, .noOperand .pha⟩,
   ⟨"EOR", .immediate, 2, .none, .operand8 .eorImm⟩,
   ⟨"LSR", .accumulator, 2, .none, .noOperand .lsrAcc⟩,
   illegalDescriptor 0x4B,
   ⟨"JMP", .absolute, 3, .none, .operand16 .jmpAbs⟩,
   ⟨"EOR", .absolute, 4, .none, .operand16 .eorAbs⟩,
   ⟨"LSR", .absolute, 6, .none, .operand16 .lsrAbs⟩,
   illegalDescriptor 0x4F
  ]

/-- Opcodes 0x50 to 0x5F of the map of R84. -/
def registryRow5 : List Descriptor :=
  [
   ⟨"BVC", .relative, 2, .branch, .operand8 .bvc⟩,
   ⟨"EOR", .indirectIndexedY, 5, .page, .operand8 .eorIndY⟩,
   illegalDescriptor 0x52,
   illegalDescriptor 0x53,
   illegalDescriptor 0x54,
   ⟨"EOR", .zeroPageX, 4, .none, .operand8 .eorZpX⟩,
   ⟨"LSR", .zeroPageX, 6, .none, .operand8 .lsrZpX⟩,
   illegalDescriptor 0x57,
   ⟨"CLI", .implicit, 2, .none, .noOperand .cli⟩,
   ⟨"EOR", .absoluteY, 4, .page, .operand16 .eorAbsY⟩,
   illegalDescriptor 0x5A,
   illegalDescriptor 0x5B,
   illegalDescriptor 0x5C,
   ⟨"EOR", .absoluteX, 4, .page, .operand16 .eorAbsX⟩,
   ⟨"LSR", .absoluteX, 7, .none, .operand16 .lsrAbsX⟩,
   illegalDescriptor 0x5F
  ]

/-- Opcodes 0x60 to 0x6F of the map of R84. -/
def registryRow6 : List Descriptor :=
  [
   ⟨"RTS", .implicit, 6, .none, .noOperand .rts⟩,
   ⟨"ADC", .indexedIndirectX, 6, .none, .operand8 .adcIndX⟩,
   illegalDescriptor 0x62,
   illegalDescriptor 0x63,
   illegalDescriptor 0x64,
   ⟨"ADC", .zeroPage, 3, .none, .operand8 .adcZp⟩,
   ⟨"ROR", .zeroPage, 5, .none, .operand8 .rorZp⟩,
   illegalDescriptor 0x67,
   ⟨"PLA", .implicit, 4, .none, .noOperand .pla⟩,
   ⟨"ADC", .immediate, 2, .none, .operand8 .adcImm⟩,
   ⟨"ROR", .accumulator, 2, .none, .noOperand .rorAcc⟩,
   illegalDescriptor 0x6B,
   ⟨"JMP", .indirect, 5, .none, .operand16 .jmpInd⟩,
   ⟨"ADC", .absolute, 4, .none, .operand16 .adcAbs⟩,
   ⟨"ROR", .absolute, 6, .none, .operand16 .rorAbs⟩,
   illegalDescriptor 0x6F
  ]

/-- Opcodes 0x70 to 0x7F of the map of R84. -/
def registryRow7 : List Descriptor :=
  [
   ⟨"BVS", .relative, 2, .branch, .operand8 .bvs⟩,
   ⟨"ADC", .indirectIndexedY, 5, .page, .operand8 .adcIndY⟩,
   illegalDescriptor 0x72,
   illegalDescriptor 0x73,
   illegalDescriptor 0x74,
   ⟨"ADC", .zeroPageX, 4, .none, .operand8 .adcZpX⟩,
   ⟨"ROR", .zeroPageX, 6, .none, .operand8 .rorZpX⟩,
   illegalDescriptor 0x77,
   ⟨"SEI", .implicit, 2, .none, .noOperand .sei⟩,
   ⟨"ADC", .absoluteY, 4, .page, .operand16 .adcAbsY⟩,
   illegalDescriptor 0x7A,
   illegalDescriptor 0x7B,
   illegalDescriptor 0x7C,
   ⟨"ADC", .absoluteX, 4, .page, .operand16 .adcAbsX⟩,
   ⟨"ROR", .absoluteX, 7, .none, .operand16 .rorAbsX⟩,
   illegalDescriptor 0x7F
  ]

/-- Opcodes 0x80 to 0x8F of the map of R84. -/
def registryRow8 : List Descriptor :=
  [
   illegalDescriptor 0x80,
   ⟨"STA", .indexedIndirectX, 6, .none, .operand8 .staIndX⟩,
   illegalDescriptor 0x82,
   illegalDescriptor 0x83,
   ⟨"STY", .zeroPage, 3, .none, .operand8 .styZp⟩,
   ⟨"STA", .zeroPage, 3, .none, .operand8 .staZp⟩,
   ⟨"STX", .zeroPage, 3, .none, .operand8 .stxZp⟩,
   illegalDescriptor 0x87,
   ⟨"DEY", .implicit, 2, .none, .noOperand .dey⟩,
   illegalDescriptor 0x89,
   ⟨"TXA", .implicit, 2, .none, .noOperand .txa⟩,
   illegalDescriptor 0x8B,
   ⟨"STY", .absolute, 4, .none, .operand16 .styAbs⟩,
   ⟨"STA", .absolute, 4, .none, .operand16 .staAbs⟩,
   ⟨"STX", .absolute, 4, .none, .operand16 .stxAbs⟩,
   illegalDescriptor 0x8F
  ]

/-- Opcodes 0x90 to 0x9F of the map of R84. -/
def registryRow9 : List Descriptor :=
  [
   ⟨"BCC", .relative, 2, .branch, .operand8 .bcc⟩,
   ⟨"STA", .indirectIndexedY, 6, .none, .operand8 .staIndY⟩,
   illegalDescriptor 0x92,
   illegalDescriptor 0x93,
   ⟨"STY", .zeroPageX, 4, .none, .operand8 .styZpX⟩,
   ⟨"STA", .zeroPageX, 4, .none, .operand8 .staZpX⟩,
   ⟨"STX", .zeroPageY, 4, .none, .operand8 .stxZpY⟩,
   illegalDescriptor 0x97,
   ⟨"TYA", .implicit, 2, .none, .noOperand .tya⟩,
   ⟨"STA", .absoluteY, 5, .none, .operand16 .staAbsY⟩,
   ⟨"TXS", .implicit, 2, .none, .noOperand .txs⟩,
   illegalDescriptor 0x9B,
   illegalDescriptor 0x9C,
   ⟨"STA", .absoluteX, 5, .none, .operand16 .staAbsX⟩,
   illegalDescriptor 0x9E,
   illegalDescriptor 0x9F
  ]

/-- Opcodes 0xA0 to 0xAF of the map of R84. -/
def registryRowA : List Descriptor :=
  [
   ⟨"LDY", .immediate, 2, .none, .operand8 .ldyImm⟩,
   ⟨"LDA", .indexedIndirectX, 6, .none, .operand8 .ldaIndX⟩,
   ⟨"LDX", .immediate, 2, .none, .operand8 .ldxImm⟩,
   illegalDescriptor 0xA3,
   ⟨"LDY", .zeroPage, 3, .none, .operand8 .ldyZp⟩,
   ⟨"LDA", .zeroPage, 3, .none, .operand8 .ldaZp⟩,
   ⟨"LDX", .zeroPage, 3, .none, .operand8 .ldxZp⟩,
   illegalDescriptor 0xA7,
   ⟨"TAY", .implicit, 2, .none, .noOperand .tay⟩,
   ⟨"LDA", .immediate, 2, .none, .operand8 .ldaImm⟩,
   ⟨"TAX", .implicit, 2, .none, .noOperand .tax⟩,
   illegalDescriptor 0xAB,
   ⟨"LDY", .absolute, 4, .none, .operand16 .ldyAbs⟩,
   ⟨"LDA", .absolute, 4, .none, .operand16 .ldaAbs⟩,
   ⟨"LDX", .absolute, 4, .none, .operand16 .ldxAbs⟩,
   illegalDescriptor 0xAF
  ]

/-- Opcodes 0xB0 to 0xBF of the map of R84. -/
def registryRowB : List Descriptor :=
  [
   ⟨"BCS", .relative, 2, .branch, .operand8 .bcs⟩,
   ⟨"LDA", .indirectIndexedY, 5, .page, .operand8 .ldaIndY⟩,
   illegalDescriptor 0xB2,
   illegalDescriptor 0xB3,
   ⟨"LDY", .zeroPageX, 4, .none, .operand8 .ldyZpX⟩,
   ⟨"LDA", .zeroPageX, 4, .none, .operand8 .ldaZpX⟩,
   ⟨"LDX", .zeroPageY, 4, .none, .operand8 .ldxZpY⟩,
   illegalDescriptor 0xB7,
   ⟨"CLV", .implicit, 2, .none, .noOperand .clv⟩,
   ⟨"LDA", .absoluteY, 4, .page, .operand16 .ldaAbsY⟩,
   ⟨"TSX", .implicit, 2, .none, .noOperand .tsx⟩,
   illegalDescriptor 0xBB,
   ⟨"LDY", .absoluteX, 4, .page, .operand16 .ldyAbsX⟩,
   ⟨"LDA", .absoluteX, 4, .page, .operand16 .ldaAbsX⟩,
   ⟨"LDX", .absoluteY, 4, .page, .operand16 .ldxAbsY⟩,
   illegalDescriptor 0xBF
  ]

/-- Opcodes 0xC0 to 0xCF of the map of R84. -/
def registryRowC : List Descriptor :=
  [
   ⟨"CPY", .immediate, 2, .none, .operand8 .cpyImm⟩,
   ⟨"CMP", .indexedIndirectX, 6, .none, .operand8 .cmpIndX⟩,
   illegalDescriptor 0xC2,
   illegalDescriptor 0xC3,
   ⟨"CPY", .zeroPage, 3, .none, .operand8 .cpyZp⟩,
   ⟨"CMP", .zeroPage, 3, .none, .operand8 .cmpZp⟩,
   ⟨"DEC", .zeroPage, 5, .none, .operand8 .decZp⟩,
   illegalDescriptor 0xC7,
   ⟨"INY", .implicit, 2, .none, .noOperand .iny⟩,
   ⟨"CMP", .immediate, 2, .none, .operand8 .cmpImm⟩,
   ⟨"DEX", .implicit, 2, .none, .noOperand .dex⟩,
   illegalDescriptor 0xCB,
   ⟨"CPY", .absolute, 4, .none, .operand16 .cpyAbs⟩,
   ⟨"CMP", .absolute, 4, .none, .operand16 .cmpAbs⟩,
   ⟨"DEC", .absolute, 6, .none, .operand16 .decAbs⟩,
   illegalDescriptor 0xCF
  ]

/-- Opcodes 0xD0 to 0xDF of the map of R84. -/
def registryRowD : List Descriptor :=
  [
   ⟨"BNE", .relative, 2, .branch, .operand8 .bne⟩,
   ⟨"CMP", .indirectIndexedY, 5, .page, .operand8 .cmpIndY⟩,
   illegalDescriptor 0xD2,
   illegalDescriptor 0xD3,
   illegalDescriptor 0xD4,
   ⟨"CMP", .zeroPageX, 4, .none, .operand8 .cmpZpX⟩,
   ⟨"DEC", .zeroPageX, 6, .none, .operand8 .decZpX⟩,
   illegalDescriptor 0xD7,
   ⟨"CLD", .implicit, 2, .none, .noOperand .cld⟩,
   ⟨"CMP", .absoluteY, 4, .page, .operand16 .cmpAbsY⟩,
   illegalDescriptor 0xDA,
   illegalDescriptor 0xDB,
   illegalDescriptor 0xDC,
   ⟨"CMP", .absoluteX, 4, .page, .operand16 .cmpAbsX⟩,
   ⟨"DEC", .absoluteX, 7, .none, .operand16 .decAbsX⟩,
   illegalDescriptor 0xDF
  ]

/-- Opcodes 0xE0 to 0xEF of the map of R84. -/
def registryRowE : List Descriptor :=
  [
   ⟨"CPX", .immediate, 2, .none, .operand8 .cpxImm⟩,
   ⟨"SBC", .indexedIndirectX, 6, .none, .operand8 .sbcIndX⟩,
   illegalDescriptor 0xE2,
   illegalDescriptor 0xE3,
   ⟨"CPX", .zeroPage, 3, .none, .operand8 .cpxZp⟩,
   ⟨"SBC", .zeroPage, 3, .none, .operand8 .sbcZp⟩,
   ⟨"INC", .zeroPage, 5, .none, .operand8 .incZp⟩,
   illegalDescriptor 0xE7,
   ⟨"INX", .implicit, 2, .none, .noOperand .inx⟩,
   ⟨"SBC", .immediate, 2, .none, .operand8 .sbcImm⟩,
   ⟨"NOP", .implicit, 2, .none, .noOperand .nop⟩,
   illegalDescriptor 0xEB,
   ⟨"CPX", .absolute, 4, .none, .operand16 .cpxAbs⟩,
   ⟨"SBC", .absolute, 4, .none, .operand16 .sbcAbs⟩,
   ⟨"INC", .absolute, 6, .none, .operand16 .incAbs⟩,
   illegalDescriptor 0xEF
  ]

/-- Opcodes 0xF0 to 0xFF of the map of R84. -/
def registryRowF : List Descriptor :=
  [
   ⟨"BEQ", .relative, 2, .branch, .operand8 .beq⟩,
   ⟨"SBC", .indirectIndexedY, 5, .page, .operand8 .sbcIndY⟩,
   illegalDescriptor 0xF2,
   illegalDescriptor 0xF3,
   illegalDescriptor 0xF4,
   ⟨"SBC", .zeroPageX, 4, .none, .operand8 .sbcZpX⟩,
   ⟨"INC", .zeroPageX, 6, .none, .operand8 .incZpX⟩,
   illegalDescriptor 0xF7,
   ⟨"SED", .implicit, 2, .none, .noOperand .sed⟩,
   ⟨"SBC", .absoluteY, 4, .page, .operand16 .sbcAbsY⟩,
   illegalDescriptor 0xFA,
   illegalDescriptor 0xFB,
   illegalDescriptor 0xFC,
   ⟨"SBC", .absoluteX, 4, .page, .operand16 .sbcAbsX⟩,
   ⟨"INC", .absoluteX, 7, .none, .operand16 .incAbsX⟩,
   illegalDescriptor 0xFF
  ]

/-- The map of R84, by high nibble. -/
def registryMap : List (List Descriptor) :=
  [registryRow0, registryRow1, registryRow2, registryRow3, registryRow4, registryRow5, registryRow6, registryRow7] ++
  [registryRow8, registryRow9, registryRowA, registryRowB, registryRowC, registryRowD, registryRowE, registryRowF]

/-- The registry: a total map from byte values to descriptors (R80, R83). -/
def registry (op : Byte) : Descriptor :=
  (registryMap.getD (op.toNat / 16) []).getD (op.toNat % 16) (illegalDescriptor op)

/-- The instruction whose opcode byte is `op`, followed in memory by `b1` and `b2` (R80, R87). Total: a byte that is no
documented opcode gives `illegal op` by name, never a default (R85). -/
def decodeAt (op b1 b2 : Byte) : Instr := (registry op).build.instr b1 b2

/-- Why a list of bytes holds no whole instruction. Never arises from memory, where every address has a next. -/
inductive DecodeReject where
  /-- There is no opcode byte. -/
  | noOpcode
  /-- The operand bytes of `op` are not all there. -/
  | truncated (op : Byte)
deriving DecidableEq, Repr

/-- The instruction a `Build` makes of the bytes after the opcode, and the bytes it leaves; none if they run out. -/
def Build.consume : Build → List Byte → Option (Instr × List Byte)
  | .noOperand i, rest => some (i, rest)
  | .operand8 f, b :: rest => some (f b, rest)
  | .operand16 f, lo :: hi :: rest => some (f (wordOfBytes lo hi), rest)
  | .operand8 _, [] => none
  | .operand16 _, [] => none
  | .operand16 _, [_] => none

/-- The first instruction of a list of bytes and the bytes after it. -/
def decode : List Byte → Except DecodeReject (Instr × List Byte)
  | [] => .error .noOpcode
  | op :: rest =>
    match (registry op).build.consume rest with
    | some decoded => .ok decoded
    | none => .error (.truncated op)

/-- The bytes of an instruction, written from the encodings of R84 and the formats of R81. -/
def Instr.encode : Instr → List Byte
  | .adcImm v => [0x69, v]
  | .adcZp a => [0x65, a]
  | .adcZpX a => [0x75, a]
  | .adcAbs a => 0x6D :: wordBytes a
  | .adcAbsX a => 0x7D :: wordBytes a
  | .adcAbsY a => 0x79 :: wordBytes a
  | .adcIndX a => [0x61, a]
  | .adcIndY a => [0x71, a]
  | .sbcImm v => [0xE9, v]
  | .sbcZp a => [0xE5, a]
  | .sbcZpX a => [0xF5, a]
  | .sbcAbs a => 0xED :: wordBytes a
  | .sbcAbsX a => 0xFD :: wordBytes a
  | .sbcAbsY a => 0xF9 :: wordBytes a
  | .sbcIndX a => [0xE1, a]
  | .sbcIndY a => [0xF1, a]
  | .andImm v => [0x29, v]
  | .andZp a => [0x25, a]
  | .andZpX a => [0x35, a]
  | .andAbs a => 0x2D :: wordBytes a
  | .andAbsX a => 0x3D :: wordBytes a
  | .andAbsY a => 0x39 :: wordBytes a
  | .andIndX a => [0x21, a]
  | .andIndY a => [0x31, a]
  | .oraImm v => [0x09, v]
  | .oraZp a => [0x05, a]
  | .oraZpX a => [0x15, a]
  | .oraAbs a => 0x0D :: wordBytes a
  | .oraAbsX a => 0x1D :: wordBytes a
  | .oraAbsY a => 0x19 :: wordBytes a
  | .oraIndX a => [0x01, a]
  | .oraIndY a => [0x11, a]
  | .eorImm v => [0x49, v]
  | .eorZp a => [0x45, a]
  | .eorZpX a => [0x55, a]
  | .eorAbs a => 0x4D :: wordBytes a
  | .eorAbsX a => 0x5D :: wordBytes a
  | .eorAbsY a => 0x59 :: wordBytes a
  | .eorIndX a => [0x41, a]
  | .eorIndY a => [0x51, a]
  | .bitZp a => [0x24, a]
  | .bitAbs a => 0x2C :: wordBytes a
  | .aslAcc => [0x0A]
  | .aslZp a => [0x06, a]
  | .aslZpX a => [0x16, a]
  | .aslAbs a => 0x0E :: wordBytes a
  | .aslAbsX a => 0x1E :: wordBytes a
  | .lsrAcc => [0x4A]
  | .lsrZp a => [0x46, a]
  | .lsrZpX a => [0x56, a]
  | .lsrAbs a => 0x4E :: wordBytes a
  | .lsrAbsX a => 0x5E :: wordBytes a
  | .rolAcc => [0x2A]
  | .rolZp a => [0x26, a]
  | .rolZpX a => [0x36, a]
  | .rolAbs a => 0x2E :: wordBytes a
  | .rolAbsX a => 0x3E :: wordBytes a
  | .rorAcc => [0x6A]
  | .rorZp a => [0x66, a]
  | .rorZpX a => [0x76, a]
  | .rorAbs a => 0x6E :: wordBytes a
  | .rorAbsX a => 0x7E :: wordBytes a
  | .cmpImm v => [0xC9, v]
  | .cmpZp a => [0xC5, a]
  | .cmpZpX a => [0xD5, a]
  | .cmpAbs a => 0xCD :: wordBytes a
  | .cmpAbsX a => 0xDD :: wordBytes a
  | .cmpAbsY a => 0xD9 :: wordBytes a
  | .cmpIndX a => [0xC1, a]
  | .cmpIndY a => [0xD1, a]
  | .cpxImm v => [0xE0, v]
  | .cpxZp a => [0xE4, a]
  | .cpxAbs a => 0xEC :: wordBytes a
  | .cpyImm v => [0xC0, v]
  | .cpyZp a => [0xC4, a]
  | .cpyAbs a => 0xCC :: wordBytes a
  | .incZp a => [0xE6, a]
  | .incZpX a => [0xF6, a]
  | .incAbs a => 0xEE :: wordBytes a
  | .incAbsX a => 0xFE :: wordBytes a
  | .decZp a => [0xC6, a]
  | .decZpX a => [0xD6, a]
  | .decAbs a => 0xCE :: wordBytes a
  | .decAbsX a => 0xDE :: wordBytes a
  | .inx => [0xE8]
  | .dex => [0xCA]
  | .iny => [0xC8]
  | .dey => [0x88]
  | .ldaImm v => [0xA9, v]
  | .ldaZp a => [0xA5, a]
  | .ldaZpX a => [0xB5, a]
  | .ldaAbs a => 0xAD :: wordBytes a
  | .ldaAbsX a => 0xBD :: wordBytes a
  | .ldaAbsY a => 0xB9 :: wordBytes a
  | .ldaIndX a => [0xA1, a]
  | .ldaIndY a => [0xB1, a]
  | .ldxImm v => [0xA2, v]
  | .ldxZp a => [0xA6, a]
  | .ldxZpY a => [0xB6, a]
  | .ldxAbs a => 0xAE :: wordBytes a
  | .ldxAbsY a => 0xBE :: wordBytes a
  | .ldyImm v => [0xA0, v]
  | .ldyZp a => [0xA4, a]
  | .ldyZpX a => [0xB4, a]
  | .ldyAbs a => 0xAC :: wordBytes a
  | .ldyAbsX a => 0xBC :: wordBytes a
  | .staZp a => [0x85, a]
  | .staZpX a => [0x95, a]
  | .staAbs a => 0x8D :: wordBytes a
  | .staAbsX a => 0x9D :: wordBytes a
  | .staAbsY a => 0x99 :: wordBytes a
  | .staIndX a => [0x81, a]
  | .staIndY a => [0x91, a]
  | .stxZp a => [0x86, a]
  | .stxZpY a => [0x96, a]
  | .stxAbs a => 0x8E :: wordBytes a
  | .styZp a => [0x84, a]
  | .styZpX a => [0x94, a]
  | .styAbs a => 0x8C :: wordBytes a
  | .tax => [0xAA]
  | .txa => [0x8A]
  | .tay => [0xA8]
  | .tya => [0x98]
  | .tsx => [0xBA]
  | .txs => [0x9A]
  | .pha => [0x48]
  | .pla => [0x68]
  | .php => [0x08]
  | .plp => [0x28]
  | .bcc off => [0x90, off]
  | .bcs off => [0xB0, off]
  | .beq off => [0xF0, off]
  | .bne off => [0xD0, off]
  | .bpl off => [0x10, off]
  | .bmi off => [0x30, off]
  | .bvc off => [0x50, off]
  | .bvs off => [0x70, off]
  | .jmpAbs a => 0x4C :: wordBytes a
  | .jmpInd p => 0x6C :: wordBytes p
  | .jsr a => 0x20 :: wordBytes a
  | .rts => [0x60]
  | .brk => [0x00]
  | .rti => [0x40]
  | .clc => [0x18]
  | .sec => [0x38]
  | .cli => [0x58]
  | .sei => [0x78]
  | .clv => [0xB8]
  | .cld => [0xD8]
  | .sed => [0xF8]
  | .nop => [0xEA]
  | .illegal op => [op]

/-- The encoder (R81, R84). -/
def encode (i : Instr) : List Byte := i.encode

/-- The first three bytes of an instruction whose bits, numbered as opcode_table.json numbers them, are the low `nbits`
of `w`; every bit above is 0. Three bytes is the longest instruction (R81). -/
def tableBytes (nbits w : Nat) : List Byte :=
  [BitVec.ofNat 8 (w % 2 ^ nbits), BitVec.ofNat 8 (w % 2 ^ nbits / 256), BitVec.ofNat 8 (w % 2 ^ nbits / 65536)]

/-- What the decoder reads from a row of opcode_table.json. -/
def decodeTableWord (nbits w : Nat) : Option Instr :=
  match decode (tableBytes nbits w) with
  | .ok (i, _) => some i
  | .error _ => none

end Sys2Proof
end

