-- ==== Sys2Proof/Machine/Memory.lean ====
section
/-! DEFINITION. Memory: 65,536 byte cells (R29, R50) as a list of (address, byte) pairs in one canonical form: addresses
strictly rising, all below 0x10000, and no entry equal to what an unlisted address reads as (log 2). -/

namespace Sys2Proof.Machine

/-- The memory of a run. -/
abbrev Memory := List Host.Cell

/-- The canonical form from address `lo` on. -/
def Memory.wfFrom : Nat → Memory → Bool
  | _, [] => true
  | lo, (k, v) :: rest =>
    decide (lo ≤ k) && decide (k < Config.memorySize) && v != Config.unlistedCell && Memory.wfFrom (k + 1) rest

/-- The canonical form: equal memories are equal lists. -/
def Memory.wf (m : Memory) : Bool := Memory.wfFrom 0 m

/-- The byte listed at `a`, or what an unlisted cell reads as. -/
def Memory.lookup : Memory → Nat → Byte
  | [], _ => Config.unlistedCell
  | (k, v) :: rest, a => if k = a then v else Memory.lookup rest a

/-- `m` with nothing listed at `a`. -/
def Memory.erase : Memory → Nat → Memory
  | [], _ => []
  | (k, v) :: rest, a => if k = a then Memory.erase rest a else (k, v) :: Memory.erase rest a

/-- `m`, which lists nothing at `a`, with `v` listed there, in address order. -/
def Memory.insert : Memory → Nat → Byte → Memory
  | [], a, v => [(a, v)]
  | (k, u) :: rest, a, v => if a < k then (a, v) :: (k, u) :: rest else (k, u) :: Memory.insert rest a v

/-- `m` with the byte `v` at `a`: an entry, or none where an unlisted cell reads as `v` anyway. -/
def Memory.store (m : Memory) (a : Nat) (v : Byte) : Memory :=
  if v = Config.unlistedCell then m.erase a else (m.erase a).insert a v

/-- `MemRead(addr, 1)` (R51): total, no side effect (R54). -/
def Memory.read (m : Memory) (addr : Word) : Byte := m.lookup addr.toNat

/-- `MemWrite(addr, 1, v)` (R51): replaces the content of the one cell `addr`. -/
def Memory.write (m : Memory) (addr : Word) (v : Byte) : Memory := m.store addr.toNat v

/-- `MemRead16(addr)` (R7): a little-endian pair at consecutive addresses modulo 65,536. -/
def Memory.read16 (m : Memory) (addr : Word) : Word := wordOfBytes (m.read addr) (m.read (addr + 1))

/-- The bytes of an image at consecutive addresses from `addr` on (R64, `load`). -/
def Memory.writeImage : Memory → Word → List Byte → Memory
  | m, _, [] => m
  | m, addr, v :: rest => Memory.writeImage (m.write addr v) (addr + 1) rest

/-- The cells below `n` as `mem0` gives them, the others unlisted. -/
def Memory.supplyBelow (mem0 : Word → Byte) : Nat → Memory
  | 0 => []
  | n + 1 => (Memory.supplyBelow mem0 n).write (BitVec.ofNat 16 n) (mem0 (BitVec.ofNat 16 n))

/-- The memory the host supplies before a run: all 65,536 cells, each with the value that the parameter `mem0` gives it
(R33, R64, R271; D16). -/
def Memory.supplied (mem0 : Word → Byte) : Memory := Memory.supplyBelow mem0 Config.memorySize

/-- The program counter that creating the Processor State takes from memory (R32, R270). -/
def Memory.resetPc (m : Memory) : Word := m.read16 Config.resetVector

end Sys2Proof.Machine
end

