-- ==== Sys2Proof/Machine/State.lean ====
section
/-! DEFINITION. The state of the block (10_state.md), the reasons of its faults and refusals (R240), and reset (R270). -/

namespace Sys2Proof.Machine

/-- The fault kinds that can stand in FAULTED (R26, R240, R255). No step of this model answers `Host.Outcome.fault`: the
spec makes a fault a change of the engine state and describes the state it leaves, so it is a next state (log 1). -/
inductive Fault where
  /-- Raised by `raiseIllegal` for an opcode byte with the illegal descriptor; records the byte and its address (R241,
  R256). Safe: the engine stops as the spec says. -/
  | illegalOpcode (op : Byte) (pc : Word)
  /-- Raised by nobody: a name kept so that the list of reasons matches the source (R242, C3; log 9). Safe. -/
  | outOfRangeAddress
deriving DecidableEq, Repr

/-- Why a request has no effect. No step answers one. -/
inductive Refusal where
  /-- Raised by `exec` for an instruction without a meaning. No arm does so in this model. Safe. -/
  | notModelled (mnemonic : String)
  /-- Raised by `load` for an image that does not fit below 0x10000; nothing changes (R243, U12; log 21). Safe. -/
  | invalidLoadRequest
deriving DecidableEq, Repr

/-- The engine state (R26, R255). -/
inductive Engine where
  | ready
  | halted
  | faulted (reason : Fault)
deriving DecidableEq, Repr

/-- The seven independent status bits (R23); there is no eighth. -/
structure Flags where
  /-- NEGATIVE -/
  n : Bool
  /-- OVERFLOW -/
  v : Bool
  /-- BREAK, a stored flag like the others (D5, log 7) -/
  b : Bool
  /-- DECIMAL -/
  d : Bool
  /-- INTERRUPT_DISABLE -/
  i : Bool
  /-- ZERO -/
  z : Bool
  /-- CARRY -/
  c : Bool
deriving DecidableEq, Repr

/-- The whole state. -/
structure State where
  /-- accumulator A (R20) -/
  a : Byte
  /-- index register X (R20) -/
  x : Byte
  /-- index register Y (R20) -/
  y : Byte
  /-- stack pointer S (R21) -/
  sp : Byte
  /-- program counter PC: between steps, the address of the next opcode byte (R22) -/
  pc : Word
  /-- the flags (R23) -/
  flags : Flags
  /-- the memory (R29) -/
  mem : Memory
  /-- the engine state (R26) -/
  engine : Engine
  /-- the running cycle counter (R27) -/
  cycles : Nat
  /-- the level of the stop input, which the block reads and never writes (R31; log 4) -/
  stop : Bool
deriving DecidableEq, Repr

/-- The flags after reset: I and B set (R32), the other five clear (D4, log 8). They pack to 0x34 (R24). -/
def Flags.reset : Flags := { n := false, v := false, b := true, d := false, i := true, z := false, c := false }

/-- Reset is the creation of the Processor State over memory as it stands; no cell is written (R270, R67). -/
def State.create (m : Memory) : State where
  a := 0x00
  x := 0x00
  y := 0x00
  sp := Config.resetSp
  pc := m.resetPc
  flags := Flags.reset
  mem := m
  engine := .ready
  cycles := 0
  stop := false

/-- The machine right after reset over the memory that the host supplied for the run. `mem0` is a parameter of the run with
no default: no cell is assumed to hold anything (R33, D16). -/
def State.resetOver (mem0 : Word → Byte) : State := State.create (Memory.supplied mem0)

/-- The machine right after reset with a memory that lists nothing: the one instance of `State.resetOver` that `core` names.
DESIGN CHOICE (logs 2, 3): that its cells read as `Config.unlistedCell` is no fact of the hardware. -/
def State.reset : State := State.create []

/-- What an instruction, a step or a request answers. -/
abbrev Answer := Host.Outcome State Fault Refusal

end Sys2Proof.Machine
end

