-- ==== Sys2Proof/Machine/Flags.lean ====
section
/-! DEFINITION. Every flag computation and every data result of the ALU, as functions of bytes and flags alone. -/

namespace Sys2Proof.Machine

/-- `setZN(v)` of R7: `Z <- (v == 0); N <- v[7]`. -/
def Flags.setZN (f : Flags) (r : Byte) : Flags := { f with z := r == 0, n := r.msb }

/-- The untruncated sum of ADC, an integer 0 .. 511 (R120). -/
def addSum (a m : Byte) (c : Bool) : Nat := a.toNat + m.toNat + c.toNat

/-- The 8-bit truncated result of ADC (R120). -/
def addResult (a m : Byte) (c : Bool) : Byte := BitVec.ofNat 8 (addSum a m c)

/-- The carry of ADC, the 9th bit of the untruncated sum (R120). -/
def addCarry (a m : Byte) (c : Bool) : Bool := decide (255 < addSum a m c)

/-- The overflow formula of R120, over the old accumulator, the operand and the result. -/
def addOverflow (a m r : Byte) : Bool := ((a ^^^ r) &&& (m ^^^ r) &&& 0x80) != 0

/-- The flags ADC writes: C, Z, V, N (R120). D is not looked at (R123). -/
def Flags.afterAdd (f : Flags) (a m : Byte) : Flags :=
  let r := addResult a m f.c
  { f.setZN r with c := addCarry a m f.c, v := addOverflow a m r }

/-- The operand SBC adds: `M ^ 0xFF` (R121, C2). -/
def borrowOperand (m : Byte) : Byte := m ^^^ 0xFF

/-- The flags of a compare of register `r` with `m`: C, Z, N (R150). -/
def Flags.afterCompare (f : Flags) (r m : Byte) : Flags :=
  { f with c := decide (m.toNat ≤ r.toNat), z := r == m, n := (r - m).msb }

/-- The flags of BIT: Z from the and, N and V from the operand (R133, C5). -/
def Flags.afterBit (f : Flags) (a m : Byte) : Flags :=
  { f with z := (a &&& m) == 0, n := m.getLsbD 7, v := m.getLsbD 6 }

/-- A shift or rotate: the operand and the old C give the result and the new C. -/
abbrev Shift := Byte → Bool → Byte × Bool

/-- ASL (R140). -/
def shiftAsl (v : Byte) (_c : Bool) : Byte × Bool := (BitVec.ofNat 8 (v.toNat * 2), v.getLsbD 7)

/-- LSR (R141). -/
def shiftLsr (v : Byte) (_c : Bool) : Byte × Bool := (v >>> 1, v.getLsbD 0)

/-- ROL (R142): the old C enters at bit 0. -/
def shiftRol (v : Byte) (c : Bool) : Byte × Bool :=
  (BitVec.ofNat 8 (v.toNat * 2) ||| (if c then 0x01 else 0x00), v.getLsbD 7)

/-- ROR (R143): the old C enters at bit 7. -/
def shiftRor (v : Byte) (c : Bool) : Byte × Bool := (v >>> 1 ||| (if c then 0x80 else 0x00), v.getLsbD 0)

/-- The flags of a shift with result `r` and carry out `c`: C, Z, N (R140 to R143). -/
def Flags.afterShift (f : Flags) (r : Byte) (c : Bool) : Flags := { f.setZN r with c := c }

/-- `pack(b4)` of R24: the byte PHP and BRK push, with `b4` in bit 4 and `P5_PUSH` in bit 5. -/
def Flags.pack (f : Flags) (b4 : Bool) : Byte :=
  BitVec.ofNat 8 (f.n.toNat * 128 + f.v.toNat * 64 + Config.p5Push.toNat * 32 + b4.toNat * 16 + f.d.toNat * 8 +
    f.i.toNat * 4 + f.z.toNat * 2 + f.c.toNat)

/-- `unpack(v)` of R24: all seven flags from a pulled byte; bit 5 is ignored. -/
def Flags.unpack (v : Byte) : Flags where
  n := v.getLsbD 7
  v := v.getLsbD 6
  b := v.getLsbD 4
  d := v.getLsbD 3
  i := v.getLsbD 2
  z := v.getLsbD 1
  c := v.getLsbD 0

end Sys2Proof.Machine
end

