-- ==== Sys2Proof/Machine/Ops.lean ====
section
/-! DEFINITION. The named operations over memory and registers: one byte read or written, push and pull, the advance of
PC and of the cycle counter, the entry to the BRK handler with its return, and the entry to a fault. -/

namespace Sys2Proof.Machine

/-- `MemRead(addr, 1)` (R51). -/
def State.read (s : State) (addr : Word) : Byte := s.mem.read addr

/-- `MemRead16(addr)` (R7). -/
def State.read16 (s : State) (addr : Word) : Word := s.mem.read16 addr

/-- `MemWrite(addr, 1, v)` (R51). -/
def State.write (s : State) (addr : Word) (v : Byte) : State := { s with mem := s.mem.write addr v }

/-- PC past an instruction of `length` bytes, modulo 65,536, and `n` cycles counted (R100, R254 lines 5, 6 and 8). -/
def State.advance (s : State) (length n : Nat) : State :=
  { s with pc := s.pc + BitVec.ofNat 16 length, cycles := s.cycles + n }

/-- A byte used as an unsigned 16-bit value: `zext_16` of R6. -/
def zext16 (b : Byte) : Word := b.setWidth 16

/-- A byte used as a two's-complement number: `sext_16` of R6. -/
def sext16 (b : Byte) : Word := b.signExtend 16

/-- The cell that the stack pointer value `sp` designates: `0x0100 + S` (R21). -/
def stackAddr (sp : Byte) : Word := Config.stackPage + zext16 sp

/-- `push(v)` of R56: store at `0x0100 + S`, then decrement S modulo 256. -/
def State.push (s : State) (v : Byte) : State := { s with mem := s.mem.write (stackAddr s.sp) v, sp := s.sp - 1 }

/-- The state a `pull()` of R56 leaves: S incremented modulo 256, memory as it was. -/
def State.popped (s : State) : State := { s with sp := s.sp + 1 }

/-- The byte a `pull()` of R56 returns: the cell S designates after the increment (C1). -/
def State.top (s : State) : Byte := s.read (stackAddr (s.sp + 1))

/-- A 16-bit value is pushed high byte first, low byte second (R56). -/
def State.pushWord (s : State) (w : Word) : State := (s.push (hiByte w)).push (loByte w)

/-- The 16-bit value two pulls return, low byte first (R56; log 11). -/
def State.topWord (s : State) : Word := wordOfBytes s.top s.popped.top

/-- Entry to the software interrupt handler (R246 b, R220) by the BRK whose opcode byte is at `pc0`: PC0 + 2 and the flags
byte with bit 4 set are pushed, I is set, and PC is loaded from the BRK vector as memory then stands. -/
def State.enterBreak (s : State) (pc0 : Word) : State :=
  let saved := (s.pushWord (pc0 + 2)).push (s.flags.pack true)
  { s with
    mem := saved.mem, sp := saved.sp, flags := { s.flags with i := true }, pc := saved.read16 Config.breakVector }

/-- Return from the software interrupt (R247, R221): all flags from the first pulled byte, then PC from the next two,
with no adjustment. -/
def State.returnFromBreak (s : State) : State :=
  { s with sp := s.popped.popped.popped.sp, flags := Flags.unpack s.top, pc := s.popped.topWord }

/-- Entry to the fault IllegalOpcode (R246 a, R241): the engine state, and nothing else, changes. -/
def State.raiseIllegal (s : State) (op : Byte) : State := { s with engine := .faulted (.illegalOpcode op s.pc) }

/-- `A <- v` with Z and N from it. -/
def State.loadA (s : State) (v : Byte) : State := { s with a := v, flags := s.flags.setZN v }

/-- `X <- v` with Z and N from it. -/
def State.loadX (s : State) (v : Byte) : State := { s with x := v, flags := s.flags.setZN v }

/-- `Y <- v` with Z and N from it. -/
def State.loadY (s : State) (v : Byte) : State := { s with y := v, flags := s.flags.setZN v }

/-- A memory cell `<- v` with Z and N from it (INC, DEC). -/
def State.storeCell (s : State) (addr : Word) (v : Byte) : State :=
  { s with mem := s.mem.write addr v, flags := s.flags.setZN v }

/-- A compare of register value `r` with `m` (R150). -/
def State.compare (s : State) (r m : Byte) : State := { s with flags := s.flags.afterCompare r m }

/-- The addition of R120 to A with the stored carry; SBC adds the complement (R121). -/
def State.addToA (s : State) (m : Byte) : State :=
  { s with a := addResult s.a m s.flags.c, flags := s.flags.afterAdd s.a m }

/-- The Accumulator form of a shift (R140 to R143). -/
def State.shiftA (s : State) (f : Shift) : State :=
  { s with a := (f s.a s.flags.c).1, flags := s.flags.afterShift (f s.a s.flags.c).1 (f s.a s.flags.c).2 }

/-- A memory form of a shift: one read, then one write of the same cell (R54, R140 to R143). -/
def State.shiftCell (s : State) (f : Shift) (addr : Word) : State :=
  let out := f (s.read addr) s.flags.c
  { s with mem := s.mem.write addr out.1, flags := s.flags.afterShift out.1 out.2 }

end Sys2Proof.Machine
end

