-- ==== Sys2Proof/Machine/Operands.lean ====
section
/-! DEFINITION. The addressing modes (40_addressing.md): effective addresses, page crossing, branch targets, and what each
class of instruction does with what a mode delivers (R114). -/

namespace Sys2Proof.Machine

/-- An addressing mode that delivers an effective address, with its operand bytes. -/
inductive AddrMode where
  | zp (operand8 : Byte)
  | zpX (operand8 : Byte)
  | zpY (operand8 : Byte)
  | abs (operand16 : Word)
  | absX (operand16 : Word)
  | absY (operand16 : Word)
  | ind (operand16 : Word)
  | indX (operand8 : Byte)
  | indY (operand8 : Byte)
deriving DecidableEq, Repr

/-- The address stored at the zero-page pointer `z`; both bytes come from the zero page (R112, R113; D14, log 16). -/
def State.zpPointer (s : State) (z : Byte) : Word := wordOfBytes (s.read (zext16 z)) (s.read (zext16 (z + 1)))

/-- The address of the high byte of an Indirect pointer: the same page, low byte incremented without carry (R111). -/
def pointerHighAddr (ptr : Word) : Word := wordOfBytes (loByte ptr + 1) (hiByte ptr)

/-- The address stored at the Indirect pointer `ptr`, with the page-wrap defect (R111). -/
def State.jumpPointer (s : State) (ptr : Word) : Word := wordOfBytes (s.read ptr) (s.read (pointerHighAddr ptr))

/-- The address before indexing, for the modes that add an index register to a 16-bit base (R109, R110, R113). -/
def AddrMode.base : AddrMode → State → Option Word
  | .absX base, _ => some base
  | .absY base, _ => some base
  | .indY z, s => some (s.zpPointer z)
  | .zp _, _ | .zpX _, _ | .zpY _, _ | .abs _, _ | .ind _, _ | .indX _, _ => none

/-- The effective address `ea` (R104 to R106, R108 to R113). -/
def AddrMode.ea : AddrMode → State → Word
  | .zp operand8, _ => zext16 operand8
  | .zpX operand8, s => zext16 (operand8 + s.x)
  | .zpY operand8, s => zext16 (operand8 + s.y)
  | .abs operand16, _ => operand16
  | .absX base, s => base + zext16 s.x
  | .absY base, s => base + zext16 s.y
  | .ind ptr, s => s.jumpPointer ptr
  | .indX operand8, s => s.zpPointer (operand8 + s.x)
  | .indY operand8, s => s.zpPointer operand8 + zext16 s.y

/-- The length of an instruction in this mode (R81). -/
def AddrMode.length : AddrMode → Nat
  | .zp _ | .zpX _ | .zpY _ | .indX _ | .indY _ => 2
  | .abs _ | .absX _ | .absY _ | .ind _ => 3

/-- `page_crossed` of R115: the indexed address lies in another page than the address before indexing. -/
def AddrMode.pageCrossed (m : AddrMode) (s : State) : Bool :=
  match m.base s with
  | some base => hiByte (m.ea s) != hiByte base
  | none => false

/-- An instruction that reads an operand through Immediate (R114): 2 bytes, `n` cycles. -/
def withImmediate (op : State → Byte → State) (n : Nat) (v : Byte) (s : State) : Answer :=
  .next (op (s.advance 2 n) v)

/-- An instruction that reads an operand through a mode with `ea` (R114): one read, and one more cycle on a page crossing
(R115). -/
def withOperand (op : State → Byte → State) (n : Nat) (m : AddrMode) (s : State) : Answer :=
  .next (op (s.advance m.length (n + (m.pageCrossed s).toNat)) (s.read (m.ea s)))

/-- A store of `v` (R114): one write, no read of `ea`, never an extra cycle. -/
def withStore (v : Byte) (n : Nat) (m : AddrMode) (s : State) : Answer :=
  .next ((s.advance m.length n).write (m.ea s) v)

/-- A read-modify-write of the cell at `ea` (R114), never an extra cycle. -/
def withCell (op : State → Word → State) (n : Nat) (m : AddrMode) (s : State) : Answer :=
  .next (op (s.advance m.length n) (m.ea s))

/-- An instruction in Implicit or Accumulator mode: 1 byte, `n` cycles (R101, R103). -/
def implied (op : State → State) (n : Nat) (s : State) : Answer := .next (op (s.advance 1 n))

/-- The target of a branch: the address after the operand plus the signed offset, modulo 65,536 (R107). -/
def branchTarget (pcn : Word) (operand8 : Byte) : Word := pcn + sext16 operand8

/-- The common branch rule (R200): 2 bytes, 2 cycles, and one more when the branch is taken (R276). -/
def branch (cond : Bool) (operand8 : Byte) (s : State) : Answer :=
  let next := s.advance 2 (2 + cond.toNat)
  .next { next with pc := if cond then branchTarget next.pc operand8 else next.pc }

end Sys2Proof.Machine
end

