-- ==== Sys2Proof/Machine/AddSub.lean ====
section
/-! DEFINITION. 41_add_subtract.md: add and subtract with carry. Binary whatever D holds (R123, D10; log 13). Each row of the opcode table has a meaning of
its own: mode, base cycles (R84) and the shared operation. -/

namespace Sys2Proof.Machine

/-- The operation of ADC, R120: A + M + C. -/
def opAdc (s : State) (m : Byte) : State := s.addToA m

/-- ADC Immediate (R120, R102), cycles 2. -/
def execAdcImm (v : Byte) (s : State) : Answer := withImmediate opAdc 2 v s

/-- ADC ZeroPage (R120, R104), cycles 3. -/
def execAdcZp (a : Byte) (s : State) : Answer := withOperand opAdc 3 (.zp a) s

/-- ADC ZeroPageX (R120, R105), cycles 4. -/
def execAdcZpX (a : Byte) (s : State) : Answer := withOperand opAdc 4 (.zpX a) s

/-- ADC Absolute (R120, R108), cycles 4. -/
def execAdcAbs (a : Word) (s : State) : Answer := withOperand opAdc 4 (.abs a) s

/-- ADC AbsoluteX (R120, R109), cycles 4+p. -/
def execAdcAbsX (a : Word) (s : State) : Answer := withOperand opAdc 4 (.absX a) s

/-- ADC AbsoluteY (R120, R110), cycles 4+p. -/
def execAdcAbsY (a : Word) (s : State) : Answer := withOperand opAdc 4 (.absY a) s

/-- ADC IndexedIndirectX (R120, R112), cycles 6. -/
def execAdcIndX (a : Byte) (s : State) : Answer := withOperand opAdc 6 (.indX a) s

/-- ADC IndirectIndexedY (R120, R113), cycles 5+p. -/
def execAdcIndY (a : Byte) (s : State) : Answer := withOperand opAdc 5 (.indY a) s

/-- The operation of SBC, R121: ADC of the complemented operand. -/
def opSbc (s : State) (m : Byte) : State := s.addToA (borrowOperand m)

/-- SBC Immediate (R121, R102), cycles 2. -/
def execSbcImm (v : Byte) (s : State) : Answer := withImmediate opSbc 2 v s

/-- SBC ZeroPage (R121, R104), cycles 3. -/
def execSbcZp (a : Byte) (s : State) : Answer := withOperand opSbc 3 (.zp a) s

/-- SBC ZeroPageX (R121, R105), cycles 4. -/
def execSbcZpX (a : Byte) (s : State) : Answer := withOperand opSbc 4 (.zpX a) s

/-- SBC Absolute (R121, R108), cycles 4. -/
def execSbcAbs (a : Word) (s : State) : Answer := withOperand opSbc 4 (.abs a) s

/-- SBC AbsoluteX (R121, R109), cycles 4+p. -/
def execSbcAbsX (a : Word) (s : State) : Answer := withOperand opSbc 4 (.absX a) s

/-- SBC AbsoluteY (R121, R110), cycles 4+p. -/
def execSbcAbsY (a : Word) (s : State) : Answer := withOperand opSbc 4 (.absY a) s

/-- SBC IndexedIndirectX (R121, R112), cycles 6. -/
def execSbcIndX (a : Byte) (s : State) : Answer := withOperand opSbc 6 (.indX a) s

/-- SBC IndirectIndexedY (R121, R113), cycles 5+p. -/
def execSbcIndY (a : Byte) (s : State) : Answer := withOperand opSbc 5 (.indY a) s

end Sys2Proof.Machine
end

