-- ==== Sys2Proof/Machine/Compare.lean ====
section
/-! DEFINITION. 44_compare.md: compare a register with memory. Each row of the opcode table has a meaning of
its own: mode, base cycles (R84) and the shared operation. -/

namespace Sys2Proof.Machine

/-- The operation of CMP, R150. -/
def opCmp (s : State) (m : Byte) : State := s.compare s.a m

/-- CMP Immediate (R150, R102), cycles 2. -/
def execCmpImm (v : Byte) (s : State) : Answer := withImmediate opCmp 2 v s

/-- CMP ZeroPage (R150, R104), cycles 3. -/
def execCmpZp (a : Byte) (s : State) : Answer := withOperand opCmp 3 (.zp a) s

/-- CMP ZeroPageX (R150, R105), cycles 4. -/
def execCmpZpX (a : Byte) (s : State) : Answer := withOperand opCmp 4 (.zpX a) s

/-- CMP Absolute (R150, R108), cycles 4. -/
def execCmpAbs (a : Word) (s : State) : Answer := withOperand opCmp 4 (.abs a) s

/-- CMP AbsoluteX (R150, R109), cycles 4+p. -/
def execCmpAbsX (a : Word) (s : State) : Answer := withOperand opCmp 4 (.absX a) s

/-- CMP AbsoluteY (R150, R110), cycles 4+p. -/
def execCmpAbsY (a : Word) (s : State) : Answer := withOperand opCmp 4 (.absY a) s

/-- CMP IndexedIndirectX (R150, R112), cycles 6. -/
def execCmpIndX (a : Byte) (s : State) : Answer := withOperand opCmp 6 (.indX a) s

/-- CMP IndirectIndexedY (R150, R113), cycles 5+p. -/
def execCmpIndY (a : Byte) (s : State) : Answer := withOperand opCmp 5 (.indY a) s

/-- The operation of CPX, R151. -/
def opCpx (s : State) (m : Byte) : State := s.compare s.x m

/-- CPX Immediate (R151, R102), cycles 2. -/
def execCpxImm (v : Byte) (s : State) : Answer := withImmediate opCpx 2 v s

/-- CPX ZeroPage (R151, R104), cycles 3. -/
def execCpxZp (a : Byte) (s : State) : Answer := withOperand opCpx 3 (.zp a) s

/-- CPX Absolute (R151, R108), cycles 4. -/
def execCpxAbs (a : Word) (s : State) : Answer := withOperand opCpx 4 (.abs a) s

/-- The operation of CPY, R152. -/
def opCpy (s : State) (m : Byte) : State := s.compare s.y m

/-- CPY Immediate (R152, R102), cycles 2. -/
def execCpyImm (v : Byte) (s : State) : Answer := withImmediate opCpy 2 v s

/-- CPY ZeroPage (R152, R104), cycles 3. -/
def execCpyZp (a : Byte) (s : State) : Answer := withOperand opCpy 3 (.zp a) s

/-- CPY Absolute (R152, R108), cycles 4. -/
def execCpyAbs (a : Word) (s : State) : Answer := withOperand opCpy 4 (.abs a) s

end Sys2Proof.Machine
end

