-- ==== Sys2Proof/Machine/ControlTransfer.lean ====
section
/-! DEFINITION. 48_branch_jump.md: branches, jump and subroutine. Each row of the opcode table has a meaning of
its own: mode, base cycles (R84) and the shared operation. -/

namespace Sys2Proof.Machine

/-- BCC Relative (R201, R107), cycles 2+b. -/
def execBcc (off : Byte) (s : State) : Answer := branch (!s.flags.c) off s

/-- BCS Relative (R202, R107), cycles 2+b. -/
def execBcs (off : Byte) (s : State) : Answer := branch s.flags.c off s

/-- BEQ Relative (R203, R107), cycles 2+b. -/
def execBeq (off : Byte) (s : State) : Answer := branch s.flags.z off s

/-- BNE Relative (R204, R107), cycles 2+b. -/
def execBne (off : Byte) (s : State) : Answer := branch (!s.flags.z) off s

/-- BPL Relative (R205, R107), cycles 2+b. -/
def execBpl (off : Byte) (s : State) : Answer := branch (!s.flags.n) off s

/-- BMI Relative (R206, R107), cycles 2+b. -/
def execBmi (off : Byte) (s : State) : Answer := branch s.flags.n off s

/-- BVC Relative (R207, R107), cycles 2+b. -/
def execBvc (off : Byte) (s : State) : Answer := branch (!s.flags.v) off s

/-- BVS Relative (R208, R107), cycles 2+b. -/
def execBvs (off : Byte) (s : State) : Answer := branch s.flags.v off s

/-- JMP Absolute (R209, R108), cycles 3. -/
def execJmpAbs (a : Word) (s : State) : Answer := .next { s.advance 3 3 with pc := (.abs a : AddrMode).ea s }

/-- JMP Indirect (R209, R111), cycles 5. -/
def execJmpInd (p : Word) (s : State) : Answer := .next { s.advance 3 5 with pc := (.ind p : AddrMode).ea s }

/-- JSR Absolute (R210, R108), cycles 6: PCn - 1 is pushed; the target is the operand as read before the pushes (R65, D21). -/
def execJsr (a : Word) (s : State) : Answer :=
  let next := s.advance 3 6
  .next { next.pushWord (next.pc - 1) with pc := a }

/-- RTS Implicit (R211, R101), cycles 6. -/
def execRts (s : State) : Answer := implied (fun s => { s.popped.popped with pc := s.topWord + 1 }) 6 s

end Sys2Proof.Machine
end

