-- ==== Sys2Proof/Machine/IncDec.lean ====
section
/-! DEFINITION. 45_inc_dec.md: increment and decrement, modulo 256. Each row of the opcode table has a meaning of
its own: mode, base cycles (R84) and the shared operation. -/

namespace Sys2Proof.Machine

/-- The operation of INC, R160. -/
def opInc (s : State) (addr : Word) : State := s.storeCell addr (s.read addr + 1)

/-- INC ZeroPage (R160, R104), cycles 5. -/
def execIncZp (a : Byte) (s : State) : Answer := withCell opInc 5 (.zp a) s

/-- INC ZeroPageX (R160, R105), cycles 6. -/
def execIncZpX (a : Byte) (s : State) : Answer := withCell opInc 6 (.zpX a) s

/-- INC Absolute (R160, R108), cycles 6. -/
def execIncAbs (a : Word) (s : State) : Answer := withCell opInc 6 (.abs a) s

/-- INC AbsoluteX (R160, R109), cycles 7. -/
def execIncAbsX (a : Word) (s : State) : Answer := withCell opInc 7 (.absX a) s

/-- The operation of DEC, R161. -/
def opDec (s : State) (addr : Word) : State := s.storeCell addr (s.read addr - 1)

/-- DEC ZeroPage (R161, R104), cycles 5. -/
def execDecZp (a : Byte) (s : State) : Answer := withCell opDec 5 (.zp a) s

/-- DEC ZeroPageX (R161, R105), cycles 6. -/
def execDecZpX (a : Byte) (s : State) : Answer := withCell opDec 6 (.zpX a) s

/-- DEC Absolute (R161, R108), cycles 6. -/
def execDecAbs (a : Word) (s : State) : Answer := withCell opDec 6 (.abs a) s

/-- DEC AbsoluteX (R161, R109), cycles 7. -/
def execDecAbsX (a : Word) (s : State) : Answer := withCell opDec 7 (.absX a) s

/-- INX Implicit (R162, R101), cycles 2. -/
def execInx (s : State) : Answer := implied (fun s => s.loadX (s.x + 1)) 2 s

/-- DEX Implicit (R163, R101), cycles 2. -/
def execDex (s : State) : Answer := implied (fun s => s.loadX (s.x - 1)) 2 s

/-- INY Implicit (R164, R101), cycles 2. -/
def execIny (s : State) : Answer := implied (fun s => s.loadY (s.y + 1)) 2 s

/-- DEY Implicit (R165, R101), cycles 2. -/
def execDey (s : State) : Answer := implied (fun s => s.loadY (s.y - 1)) 2 s

end Sys2Proof.Machine
end

