-- ==== Sys2Proof/Machine/InterruptFlagNop.lean ====
section
/-! DEFINITION. 49_interrupt_flag_nop.md: software interrupt, flag instructions, no-operation; and the illegal descriptor (R85, R241). Each row of the opcode table has a meaning of
its own: mode, base cycles (R84) and the shared operation. -/

namespace Sys2Proof.Machine

/-- BRK Implicit (R220, R101), cycles 7. -/
def execBrk (s : State) : Answer := .next ((s.advance 1 7).enterBreak s.pc)

/-- RTI Implicit (R221, R101), cycles 6. -/
def execRti (s : State) : Answer := implied (fun s => s.returnFromBreak) 6 s

/-- CLC Implicit (R222, R101), cycles 2. -/
def execClc (s : State) : Answer := implied (fun s => { s with flags := { s.flags with c := false } }) 2 s

/-- SEC Implicit (R223, R101), cycles 2. -/
def execSec (s : State) : Answer := implied (fun s => { s with flags := { s.flags with c := true } }) 2 s

/-- CLI Implicit (R224, R101), cycles 2. -/
def execCli (s : State) : Answer := implied (fun s => { s with flags := { s.flags with i := false } }) 2 s

/-- SEI Implicit (R225, R101), cycles 2. -/
def execSei (s : State) : Answer := implied (fun s => { s with flags := { s.flags with i := true } }) 2 s

/-- CLV Implicit (R226, R101), cycles 2. -/
def execClv (s : State) : Answer := implied (fun s => { s with flags := { s.flags with v := false } }) 2 s

/-- CLD Implicit (R227, R101), cycles 2. -/
def execCld (s : State) : Answer := implied (fun s => { s with flags := { s.flags with d := false } }) 2 s

/-- SED Implicit (R228, R101), cycles 2. -/
def execSed (s : State) : Answer := implied (fun s => { s with flags := { s.flags with d := true } }) 2 s

/-- NOP Implicit (R229, R101), cycles 2. -/
def execNop (s : State) : Answer := implied id 2 s

/-- A byte with the illegal descriptor (R85, R241): the engine is FAULTED, nothing else changes, no cycle is counted. -/
def execIllegal (op : Byte) (s : State) : Answer := .next (s.raiseIllegal op)

end Sys2Proof.Machine
end

