-- ==== Sys2Proof/Machine/LoadStore.lean ====
section
/-! DEFINITION. 46_load_store.md: load and store. Each row of the opcode table has a meaning of
its own: mode, base cycles (R84) and the shared operation. -/

namespace Sys2Proof.Machine

/-- The operation of LDA, R170. -/
def opLda (s : State) (m : Byte) : State := s.loadA m

/-- LDA Immediate (R170, R102), cycles 2. -/
def execLdaImm (v : Byte) (s : State) : Answer := withImmediate opLda 2 v s

/-- LDA ZeroPage (R170, R104), cycles 3. -/
def execLdaZp (a : Byte) (s : State) : Answer := withOperand opLda 3 (.zp a) s

/-- LDA ZeroPageX (R170, R105), cycles 4. -/
def execLdaZpX (a : Byte) (s : State) : Answer := withOperand opLda 4 (.zpX a) s

/-- LDA Absolute (R170, R108), cycles 4. -/
def execLdaAbs (a : Word) (s : State) : Answer := withOperand opLda 4 (.abs a) s

/-- LDA AbsoluteX (R170, R109), cycles 4+p. -/
def execLdaAbsX (a : Word) (s : State) : Answer := withOperand opLda 4 (.absX a) s

/-- LDA AbsoluteY (R170, R110), cycles 4+p. -/
def execLdaAbsY (a : Word) (s : State) : Answer := withOperand opLda 4 (.absY a) s

/-- LDA IndexedIndirectX (R170, R112), cycles 6. -/
def execLdaIndX (a : Byte) (s : State) : Answer := withOperand opLda 6 (.indX a) s

/-- LDA IndirectIndexedY (R170, R113), cycles 5+p. -/
def execLdaIndY (a : Byte) (s : State) : Answer := withOperand opLda 5 (.indY a) s

/-- The operation of LDX, R171. -/
def opLdx (s : State) (m : Byte) : State := s.loadX m

/-- LDX Immediate (R171, R102), cycles 2. -/
def execLdxImm (v : Byte) (s : State) : Answer := withImmediate opLdx 2 v s

/-- LDX ZeroPage (R171, R104), cycles 3. -/
def execLdxZp (a : Byte) (s : State) : Answer := withOperand opLdx 3 (.zp a) s

/-- LDX ZeroPageY (R171, R106), cycles 4. -/
def execLdxZpY (a : Byte) (s : State) : Answer := withOperand opLdx 4 (.zpY a) s

/-- LDX Absolute (R171, R108), cycles 4. -/
def execLdxAbs (a : Word) (s : State) : Answer := withOperand opLdx 4 (.abs a) s

/-- LDX AbsoluteY (R171, R110), cycles 4+p. -/
def execLdxAbsY (a : Word) (s : State) : Answer := withOperand opLdx 4 (.absY a) s

/-- The operation of LDY, R172. -/
def opLdy (s : State) (m : Byte) : State := s.loadY m

/-- LDY Immediate (R172, R102), cycles 2. -/
def execLdyImm (v : Byte) (s : State) : Answer := withImmediate opLdy 2 v s

/-- LDY ZeroPage (R172, R104), cycles 3. -/
def execLdyZp (a : Byte) (s : State) : Answer := withOperand opLdy 3 (.zp a) s

/-- LDY ZeroPageX (R172, R105), cycles 4. -/
def execLdyZpX (a : Byte) (s : State) : Answer := withOperand opLdy 4 (.zpX a) s

/-- LDY Absolute (R172, R108), cycles 4. -/
def execLdyAbs (a : Word) (s : State) : Answer := withOperand opLdy 4 (.abs a) s

/-- LDY AbsoluteX (R172, R109), cycles 4+p. -/
def execLdyAbsX (a : Word) (s : State) : Answer := withOperand opLdy 4 (.absX a) s

/-- STA ZeroPage (R173, R104), cycles 3. -/
def execStaZp (a : Byte) (s : State) : Answer := withStore s.a 3 (.zp a) s

/-- STA ZeroPageX (R173, R105), cycles 4. -/
def execStaZpX (a : Byte) (s : State) : Answer := withStore s.a 4 (.zpX a) s

/-- STA Absolute (R173, R108), cycles 4. -/
def execStaAbs (a : Word) (s : State) : Answer := withStore s.a 4 (.abs a) s

/-- STA AbsoluteX (R173, R109), cycles 5. -/
def execStaAbsX (a : Word) (s : State) : Answer := withStore s.a 5 (.absX a) s

/-- STA AbsoluteY (R173, R110), cycles 5. -/
def execStaAbsY (a : Word) (s : State) : Answer := withStore s.a 5 (.absY a) s

/-- STA IndexedIndirectX (R173, R112), cycles 6. -/
def execStaIndX (a : Byte) (s : State) : Answer := withStore s.a 6 (.indX a) s

/-- STA IndirectIndexedY (R173, R113), cycles 6. -/
def execStaIndY (a : Byte) (s : State) : Answer := withStore s.a 6 (.indY a) s

/-- STX ZeroPage (R174, R104), cycles 3. -/
def execStxZp (a : Byte) (s : State) : Answer := withStore s.x 3 (.zp a) s

/-- STX ZeroPageY (R174, R106), cycles 4. -/
def execStxZpY (a : Byte) (s : State) : Answer := withStore s.x 4 (.zpY a) s

/-- STX Absolute (R174, R108), cycles 4. -/
def execStxAbs (a : Word) (s : State) : Answer := withStore s.x 4 (.abs a) s

/-- STY ZeroPage (R175, R104), cycles 3. -/
def execStyZp (a : Byte) (s : State) : Answer := withStore s.y 3 (.zp a) s

/-- STY ZeroPageX (R175, R105), cycles 4. -/
def execStyZpX (a : Byte) (s : State) : Answer := withStore s.y 4 (.zpX a) s

/-- STY Absolute (R175, R108), cycles 4. -/
def execStyAbs (a : Word) (s : State) : Answer := withStore s.y 4 (.abs a) s

end Sys2Proof.Machine
end

