-- ==== Sys2Proof/Machine/Logical.lean ====
section
/-! DEFINITION. 42_logical_bit.md: logical instructions and bit test. Each row of the opcode table has a meaning of
its own: mode, base cycles (R84) and the shared operation. -/

namespace Sys2Proof.Machine

/-- The operation of AND, R130. -/
def opAnd (s : State) (m : Byte) : State := s.loadA (s.a &&& m)

/-- AND Immediate (R130, R102), cycles 2. -/
def execAndImm (v : Byte) (s : State) : Answer := withImmediate opAnd 2 v s

/-- AND ZeroPage (R130, R104), cycles 3. -/
def execAndZp (a : Byte) (s : State) : Answer := withOperand opAnd 3 (.zp a) s

/-- AND ZeroPageX (R130, R105), cycles 4. -/
def execAndZpX (a : Byte) (s : State) : Answer := withOperand opAnd 4 (.zpX a) s

/-- AND Absolute (R130, R108), cycles 4. -/
def execAndAbs (a : Word) (s : State) : Answer := withOperand opAnd 4 (.abs a) s

/-- AND AbsoluteX (R130, R109), cycles 4+p. -/
def execAndAbsX (a : Word) (s : State) : Answer := withOperand opAnd 4 (.absX a) s

/-- AND AbsoluteY (R130, R110), cycles 4+p. -/
def execAndAbsY (a : Word) (s : State) : Answer := withOperand opAnd 4 (.absY a) s

/-- AND IndexedIndirectX (R130, R112), cycles 6. -/
def execAndIndX (a : Byte) (s : State) : Answer := withOperand opAnd 6 (.indX a) s

/-- AND IndirectIndexedY (R130, R113), cycles 5+p. -/
def execAndIndY (a : Byte) (s : State) : Answer := withOperand opAnd 5 (.indY a) s

/-- The operation of ORA, R131. -/
def opOra (s : State) (m : Byte) : State := s.loadA (s.a ||| m)

/-- ORA Immediate (R131, R102), cycles 2. -/
def execOraImm (v : Byte) (s : State) : Answer := withImmediate opOra 2 v s

/-- ORA ZeroPage (R131, R104), cycles 3. -/
def execOraZp (a : Byte) (s : State) : Answer := withOperand opOra 3 (.zp a) s

/-- ORA ZeroPageX (R131, R105), cycles 4. -/
def execOraZpX (a : Byte) (s : State) : Answer := withOperand opOra 4 (.zpX a) s

/-- ORA Absolute (R131, R108), cycles 4. -/
def execOraAbs (a : Word) (s : State) : Answer := withOperand opOra 4 (.abs a) s

/-- ORA AbsoluteX (R131, R109), cycles 4+p. -/
def execOraAbsX (a : Word) (s : State) : Answer := withOperand opOra 4 (.absX a) s

/-- ORA AbsoluteY (R131, R110), cycles 4+p. -/
def execOraAbsY (a : Word) (s : State) : Answer := withOperand opOra 4 (.absY a) s

/-- ORA IndexedIndirectX (R131, R112), cycles 6. -/
def execOraIndX (a : Byte) (s : State) : Answer := withOperand opOra 6 (.indX a) s

/-- ORA IndirectIndexedY (R131, R113), cycles 5+p. -/
def execOraIndY (a : Byte) (s : State) : Answer := withOperand opOra 5 (.indY a) s

/-- The operation of EOR, R132. -/
def opEor (s : State) (m : Byte) : State := s.loadA (s.a ^^^ m)

/-- EOR Immediate (R132, R102), cycles 2. -/
def execEorImm (v : Byte) (s : State) : Answer := withImmediate opEor 2 v s

/-- EOR ZeroPage (R132, R104), cycles 3. -/
def execEorZp (a : Byte) (s : State) : Answer := withOperand opEor 3 (.zp a) s

/-- EOR ZeroPageX (R132, R105), cycles 4. -/
def execEorZpX (a : Byte) (s : State) : Answer := withOperand opEor 4 (.zpX a) s

/-- EOR Absolute (R132, R108), cycles 4. -/
def execEorAbs (a : Word) (s : State) : Answer := withOperand opEor 4 (.abs a) s

/-- EOR AbsoluteX (R132, R109), cycles 4+p. -/
def execEorAbsX (a : Word) (s : State) : Answer := withOperand opEor 4 (.absX a) s

/-- EOR AbsoluteY (R132, R110), cycles 4+p. -/
def execEorAbsY (a : Word) (s : State) : Answer := withOperand opEor 4 (.absY a) s

/-- EOR IndexedIndirectX (R132, R112), cycles 6. -/
def execEorIndX (a : Byte) (s : State) : Answer := withOperand opEor 6 (.indX a) s

/-- EOR IndirectIndexedY (R132, R113), cycles 5+p. -/
def execEorIndY (a : Byte) (s : State) : Answer := withOperand opEor 5 (.indY a) s

/-- The operation of BIT, R133: A is not written. -/
def opBit (s : State) (m : Byte) : State := { s with flags := s.flags.afterBit s.a m }

/-- BIT ZeroPage (R133, R104), cycles 3. -/
def execBitZp (a : Byte) (s : State) : Answer := withOperand opBit 3 (.zp a) s

/-- BIT Absolute (R133, R108), cycles 4. -/
def execBitAbs (a : Word) (s : State) : Answer := withOperand opBit 4 (.abs a) s

end Sys2Proof.Machine
end

