-- ==== Sys2Proof/Machine/ShiftRotate.lean ====
section
/-! DEFINITION. 43_shift_rotate.md: shift and rotate by one bit, accumulator and memory forms. Each row of the opcode table has a meaning of
its own: mode, base cycles (R84) and the shared operation. -/

namespace Sys2Proof.Machine

/-- ASL Accumulator (R140, R103), cycles 2. -/
def execAslAcc (s : State) : Answer := implied (fun s => s.shiftA shiftAsl) 2 s

/-- ASL ZeroPage (R140, R104), cycles 5. -/
def execAslZp (a : Byte) (s : State) : Answer := withCell (fun s addr => s.shiftCell shiftAsl addr) 5 (.zp a) s

/-- ASL ZeroPageX (R140, R105), cycles 6. -/
def execAslZpX (a : Byte) (s : State) : Answer := withCell (fun s addr => s.shiftCell shiftAsl addr) 6 (.zpX a) s

/-- ASL Absolute (R140, R108), cycles 6. -/
def execAslAbs (a : Word) (s : State) : Answer := withCell (fun s addr => s.shiftCell shiftAsl addr) 6 (.abs a) s

/-- ASL AbsoluteX (R140, R109), cycles 7. -/
def execAslAbsX (a : Word) (s : State) : Answer := withCell (fun s addr => s.shiftCell shiftAsl addr) 7 (.absX a) s

/-- LSR Accumulator (R141, R103), cycles 2. -/
def execLsrAcc (s : State) : Answer := implied (fun s => s.shiftA shiftLsr) 2 s

/-- LSR ZeroPage (R141, R104), cycles 5. -/
def execLsrZp (a : Byte) (s : State) : Answer := withCell (fun s addr => s.shiftCell shiftLsr addr) 5 (.zp a) s

/-- LSR ZeroPageX (R141, R105), cycles 6. -/
def execLsrZpX (a : Byte) (s : State) : Answer := withCell (fun s addr => s.shiftCell shiftLsr addr) 6 (.zpX a) s

/-- LSR Absolute (R141, R108), cycles 6. -/
def execLsrAbs (a : Word) (s : State) : Answer := withCell (fun s addr => s.shiftCell shiftLsr addr) 6 (.abs a) s

/-- LSR AbsoluteX (R141, R109), cycles 7. -/
def execLsrAbsX (a : Word) (s : State) : Answer := withCell (fun s addr => s.shiftCell shiftLsr addr) 7 (.absX a) s

/-- ROL Accumulator (R142, R103), cycles 2. -/
def execRolAcc (s : State) : Answer := implied (fun s => s.shiftA shiftRol) 2 s

/-- ROL ZeroPage (R142, R104), cycles 5. -/
def execRolZp (a : Byte) (s : State) : Answer := withCell (fun s addr => s.shiftCell shiftRol addr) 5 (.zp a) s

/-- ROL ZeroPageX (R142, R105), cycles 6. -/
def execRolZpX (a : Byte) (s : State) : Answer := withCell (fun s addr => s.shiftCell shiftRol addr) 6 (.zpX a) s

/-- ROL Absolute (R142, R108), cycles 6. -/
def execRolAbs (a : Word) (s : State) : Answer := withCell (fun s addr => s.shiftCell shiftRol addr) 6 (.abs a) s

/-- ROL AbsoluteX (R142, R109), cycles 7. -/
def execRolAbsX (a : Word) (s : State) : Answer := withCell (fun s addr => s.shiftCell shiftRol addr) 7 (.absX a) s

/-- ROR Accumulator (R143, R103), cycles 2. -/
def execRorAcc (s : State) : Answer := implied (fun s => s.shiftA shiftRor) 2 s

/-- ROR ZeroPage (R143, R104), cycles 5. -/
def execRorZp (a : Byte) (s : State) : Answer := withCell (fun s addr => s.shiftCell shiftRor addr) 5 (.zp a) s

/-- ROR ZeroPageX (R143, R105), cycles 6. -/
def execRorZpX (a : Byte) (s : State) : Answer := withCell (fun s addr => s.shiftCell shiftRor addr) 6 (.zpX a) s

/-- ROR Absolute (R143, R108), cycles 6. -/
def execRorAbs (a : Word) (s : State) : Answer := withCell (fun s addr => s.shiftCell shiftRor addr) 6 (.abs a) s

/-- ROR AbsoluteX (R143, R109), cycles 7. -/
def execRorAbsX (a : Word) (s : State) : Answer := withCell (fun s addr => s.shiftCell shiftRor addr) 7 (.absX a) s

end Sys2Proof.Machine
end

