-- ==== Sys2Proof/Machine/TransferStack.lean ====
section
/-! DEFINITION. 47_transfer_stack.md: register transfers and stack instructions. Each row of the opcode table has a meaning of
its own: mode, base cycles (R84) and the shared operation. -/

namespace Sys2Proof.Machine

/-- TAX Implicit (R180, R101), cycles 2. -/
def execTax (s : State) : Answer := implied (fun s => s.loadX s.a) 2 s

/-- TXA Implicit (R181, R101), cycles 2. -/
def execTxa (s : State) : Answer := implied (fun s => s.loadA s.x) 2 s

/-- TAY Implicit (R182, R101), cycles 2. -/
def execTay (s : State) : Answer := implied (fun s => s.loadY s.a) 2 s

/-- TYA Implicit (R183, R101), cycles 2. -/
def execTya (s : State) : Answer := implied (fun s => s.loadA s.y) 2 s

/-- TSX Implicit (R184, R101), cycles 2. -/
def execTsx (s : State) : Answer := implied (fun s => s.loadX s.sp) 2 s

/-- TXS Implicit (R185, R101), cycles 2. -/
def execTxs (s : State) : Answer := implied (fun s => { s with sp := s.x }) 2 s

/-- PHA Implicit (R186, R101), cycles 3. -/
def execPha (s : State) : Answer := implied (fun s => s.push s.a) 3 s

/-- PLA Implicit (R187, R101), cycles 4. -/
def execPla (s : State) : Answer := implied (fun s => s.popped.loadA s.top) 4 s

/-- PHP Implicit (R188, R101), cycles 3. -/
def execPhp (s : State) : Answer := implied (fun s => s.push (s.flags.pack s.flags.b)) 3 s

/-- PLP Implicit (R189, R101), cycles 4. -/
def execPlp (s : State) : Answer := implied (fun s => { s.popped with flags := Flags.unpack s.top }) 4 s

end Sys2Proof.Machine
end

