-- ==== Sys2Proof/Machine/Dispatch.lean ====
section
/-! DEFINITION. One arm per constructor of `Instr`, each the direct call of its meaning: what R254 does from line 5 on, once
the opcode byte at PC has been decoded (line 4 for the illegal descriptor). -/

namespace Sys2Proof.Machine

open Sys2Proof

def exec (i : Instr) (s : State) : Host.Outcome State Fault Refusal :=
  match i with
  | .adcImm v => Sys2Proof.Machine.execAdcImm v s
  | .adcZp a => Sys2Proof.Machine.execAdcZp a s
  | .adcZpX a => Sys2Proof.Machine.execAdcZpX a s
  | .adcAbs a => Sys2Proof.Machine.execAdcAbs a s
  | .adcAbsX a => Sys2Proof.Machine.execAdcAbsX a s
  | .adcAbsY a => Sys2Proof.Machine.execAdcAbsY a s
  | .adcIndX a => Sys2Proof.Machine.execAdcIndX a s
  | .adcIndY a => Sys2Proof.Machine.execAdcIndY a s
  | .sbcImm v => Sys2Proof.Machine.execSbcImm v s
  | .sbcZp a => Sys2Proof.Machine.execSbcZp a s
  | .sbcZpX a => Sys2Proof.Machine.execSbcZpX a s
  | .sbcAbs a => Sys2Proof.Machine.execSbcAbs a s
  | .sbcAbsX a => Sys2Proof.Machine.execSbcAbsX a s
  | .sbcAbsY a => Sys2Proof.Machine.execSbcAbsY a s
  | .sbcIndX a => Sys2Proof.Machine.execSbcIndX a s
  | .sbcIndY a => Sys2Proof.Machine.execSbcIndY a s
  | .andImm v => Sys2Proof.Machine.execAndImm v s
  | .andZp a => Sys2Proof.Machine.execAndZp a s
  | .andZpX a => Sys2Proof.Machine.execAndZpX a s
  | .andAbs a => Sys2Proof.Machine.execAndAbs a s
  | .andAbsX a => Sys2Proof.Machine.execAndAbsX a s
  | .andAbsY a => Sys2Proof.Machine.execAndAbsY a s
  | .andIndX a => Sys2Proof.Machine.execAndIndX a s
  | .andIndY a => Sys2Proof.Machine.execAndIndY a s
  | .oraImm v => Sys2Proof.Machine.execOraImm v s
  | .oraZp a => Sys2Proof.Machine.execOraZp a s
  | .oraZpX a => Sys2Proof.Machine.execOraZpX a s
  | .oraAbs a => Sys2Proof.Machine.execOraAbs a s
  | .oraAbsX a => Sys2Proof.Machine.execOraAbsX a s
  | .oraAbsY a => Sys2Proof.Machine.execOraAbsY a s
  | .oraIndX a => Sys2Proof.Machine.execOraIndX a s
  | .oraIndY a => Sys2Proof.Machine.execOraIndY a s
  | .eorImm v => Sys2Proof.Machine.execEorImm v s
  | .eorZp a => Sys2Proof.Machine.execEorZp a s
  | .eorZpX a => Sys2Proof.Machine.execEorZpX a s
  | .eorAbs a => Sys2Proof.Machine.execEorAbs a s
  | .eorAbsX a => Sys2Proof.Machine.execEorAbsX a s
  | .eorAbsY a => Sys2Proof.Machine.execEorAbsY a s
  | .eorIndX a => Sys2Proof.Machine.execEorIndX a s
  | .eorIndY a => Sys2Proof.Machine.execEorIndY a s
  | .bitZp a => Sys2Proof.Machine.execBitZp a s
  | .bitAbs a => Sys2Proof.Machine.execBitAbs a s
  | .aslAcc => Sys2Proof.Machine.execAslAcc s
  | .aslZp a => Sys2Proof.Machine.execAslZp a s
  | .aslZpX a => Sys2Proof.Machine.execAslZpX a s
  | .aslAbs a => Sys2Proof.Machine.execAslAbs a s
  | .aslAbsX a => Sys2Proof.Machine.execAslAbsX a s
  | .lsrAcc => Sys2Proof.Machine.execLsrAcc s
  | .lsrZp a => Sys2Proof.Machine.execLsrZp a s
  | .lsrZpX a => Sys2Proof.Machine.execLsrZpX a s
  | .lsrAbs a => Sys2Proof.Machine.execLsrAbs a s
  | .lsrAbsX a => Sys2Proof.Machine.execLsrAbsX a s
  | .rolAcc => Sys2Proof.Machine.execRolAcc s
  | .rolZp a => Sys2Proof.Machine.execRolZp a s
  | .rolZpX a => Sys2Proof.Machine.execRolZpX a s
  | .rolAbs a => Sys2Proof.Machine.execRolAbs a s
  | .rolAbsX a => Sys2Proof.Machine.execRolAbsX a s
  | .rorAcc => Sys2Proof.Machine.execRorAcc s
  | .rorZp a => Sys2Proof.Machine.execRorZp a s
  | .rorZpX a => Sys2Proof.Machine.execRorZpX a s
  | .rorAbs a => Sys2Proof.Machine.execRorAbs a s
  | .rorAbsX a => Sys2Proof.Machine.execRorAbsX a s
  | .cmpImm v => Sys2Proof.Machine.execCmpImm v s
  | .cmpZp a => Sys2Proof.Machine.execCmpZp a s
  | .cmpZpX a => Sys2Proof.Machine.execCmpZpX a s
  | .cmpAbs a => Sys2Proof.Machine.execCmpAbs a s
  | .cmpAbsX a => Sys2Proof.Machine.execCmpAbsX a s
  | .cmpAbsY a => Sys2Proof.Machine.execCmpAbsY a s
  | .cmpIndX a => Sys2Proof.Machine.execCmpIndX a s
  | .cmpIndY a => Sys2Proof.Machine.execCmpIndY a s
  | .cpxImm v => Sys2Proof.Machine.execCpxImm v s
  | .cpxZp a => Sys2Proof.Machine.execCpxZp a s
  | .cpxAbs a => Sys2Proof.Machine.execCpxAbs a s
  | .cpyImm v => Sys2Proof.Machine.execCpyImm v s
  | .cpyZp a => Sys2Proof.Machine.execCpyZp a s
  | .cpyAbs a => Sys2Proof.Machine.execCpyAbs a s
  | .incZp a => Sys2Proof.Machine.execIncZp a s
  | .incZpX a => Sys2Proof.Machine.execIncZpX a s
  | .incAbs a => Sys2Proof.Machine.execIncAbs a s
  | .incAbsX a => Sys2Proof.Machine.execIncAbsX a s
  | .decZp a => Sys2Proof.Machine.execDecZp a s
  | .decZpX a => Sys2Proof.Machine.execDecZpX a s
  | .decAbs a => Sys2Proof.Machine.execDecAbs a s
  | .decAbsX a => Sys2Proof.Machine.execDecAbsX a s
  | .inx => Sys2Proof.Machine.execInx s
  | .dex => Sys2Proof.Machine.execDex s
  | .iny => Sys2Proof.Machine.execIny s
  | .dey => Sys2Proof.Machine.execDey s
  | .ldaImm v => Sys2Proof.Machine.execLdaImm v s
  | .ldaZp a => Sys2Proof.Machine.execLdaZp a s
  | .ldaZpX a => Sys2Proof.Machine.execLdaZpX a s
  | .ldaAbs a => Sys2Proof.Machine.execLdaAbs a s
  | .ldaAbsX a => Sys2Proof.Machine.execLdaAbsX a s
  | .ldaAbsY a => Sys2Proof.Machine.execLdaAbsY a s
  | .ldaIndX a => Sys2Proof.Machine.execLdaIndX a s
  | .ldaIndY a => Sys2Proof.Machine.execLdaIndY a s
  | .ldxImm v => Sys2Proof.Machine.execLdxImm v s
  | .ldxZp a => Sys2Proof.Machine.execLdxZp a s
  | .ldxZpY a => Sys2Proof.Machine.execLdxZpY a s
  | .ldxAbs a => Sys2Proof.Machine.execLdxAbs a s
  | .ldxAbsY a => Sys2Proof.Machine.execLdxAbsY a s
  | .ldyImm v => Sys2Proof.Machine.execLdyImm v s
  | .ldyZp a => Sys2Proof.Machine.execLdyZp a s
  | .ldyZpX a => Sys2Proof.Machine.execLdyZpX a s
  | .ldyAbs a => Sys2Proof.Machine.execLdyAbs a s
  | .ldyAbsX a => Sys2Proof.Machine.execLdyAbsX a s
  | .staZp a => Sys2Proof.Machine.execStaZp a s
  | .staZpX a => Sys2Proof.Machine.execStaZpX a s
  | .staAbs a => Sys2Proof.Machine.execStaAbs a s
  | .staAbsX a => Sys2Proof.Machine.execStaAbsX a s
  | .staAbsY a => Sys2Proof.Machine.execStaAbsY a s
  | .staIndX a => Sys2Proof.Machine.execStaIndX a s
  | .staIndY a => Sys2Proof.Machine.execStaIndY a s
  | .stxZp a => Sys2Proof.Machine.execStxZp a s
  | .stxZpY a => Sys2Proof.Machine.execStxZpY a s
  | .stxAbs a => Sys2Proof.Machine.execStxAbs a s
  | .styZp a => Sys2Proof.Machine.execStyZp a s
  | .styZpX a => Sys2Proof.Machine.execStyZpX a s
  | .styAbs a => Sys2Proof.Machine.execStyAbs a s
  | .tax => Sys2Proof.Machine.execTax s
  | .txa => Sys2Proof.Machine.execTxa s
  | .tay => Sys2Proof.Machine.execTay s
  | .tya => Sys2Proof.Machine.execTya s
  | .tsx => Sys2Proof.Machine.execTsx s
  | .txs => Sys2Proof.Machine.execTxs s
  | .pha => Sys2Proof.Machine.execPha s
  | .pla => Sys2Proof.Machine.execPla s
  | .php => Sys2Proof.Machine.execPhp s
  | .plp => Sys2Proof.Machine.execPlp s
  | .bcc off => Sys2Proof.Machine.execBcc off s
  | .bcs off => Sys2Proof.Machine.execBcs off s
  | .beq off => Sys2Proof.Machine.execBeq off s
  | .bne off => Sys2Proof.Machine.execBne off s
  | .bpl off => Sys2Proof.Machine.execBpl off s
  | .bmi off => Sys2Proof.Machine.execBmi off s
  | .bvc off => Sys2Proof.Machine.execBvc off s
  | .bvs off => Sys2Proof.Machine.execBvs off s
  | .jmpAbs a => Sys2Proof.Machine.execJmpAbs a s
  | .jmpInd p => Sys2Proof.Machine.execJmpInd p s
  | .jsr a => Sys2Proof.Machine.execJsr a s
  | .rts => Sys2Proof.Machine.execRts s
  | .brk => Sys2Proof.Machine.execBrk s
  | .rti => Sys2Proof.Machine.execRti s
  | .clc => Sys2Proof.Machine.execClc s
  | .sec => Sys2Proof.Machine.execSec s
  | .cli => Sys2Proof.Machine.execCli s
  | .sei => Sys2Proof.Machine.execSei s
  | .clv => Sys2Proof.Machine.execClv s
  | .cld => Sys2Proof.Machine.execCld s
  | .sed => Sys2Proof.Machine.execSed s
  | .nop => Sys2Proof.Machine.execNop s
  | .illegal op => Sys2Proof.Machine.execIllegal op s

end Sys2Proof.Machine
end

