-- ==== Sys2Proof/Machine/Fetch.lean ====
section
/-! DEFINITION. Fetching and decoding the instruction at PC (R62, R82, R254 line 3), and placing an instruction there. -/

namespace Sys2Proof.Machine

/-- The instruction at PC: the opcode byte at PC0 and the bytes at PC0+1 and PC0+2, modulo 65,536, read from the same
memory as data. A byte beyond the instruction's length has no influence (`Build.instr`; log 23). -/
def State.fetch (s : State) : Instr := decodeAt (s.read s.pc) (s.read (s.pc + 1)) (s.read (s.pc + 2))

/-- The state with the bytes of a list at PC and after, ready to run them: the engine READY, no stop request. -/
def State.placeAtPc (s : State) (bytes : List Byte) : State :=
  { s with mem := s.mem.writeImage s.pc bytes, engine := .ready, stop := false }

end Sys2Proof.Machine
end

