-- ==== Sys2Proof/Machine/Step.lean ====
section
/-! DEFINITION. One call of `step` (R254), and where the next instruction is fetched from. -/

namespace Sys2Proof.Machine

/-- One step. Line 1 of R254: unless READY, no change at all (D12). Line 2: a stop request halts the engine before the
opcode fetch (D13). Lines 3 to 9: fetch, decode, and `exec`. -/
def step (s : State) : Host.Outcome State Fault Refusal :=
  match s.engine with
  | .ready => if s.stop then .next { s with engine := .halted } else exec s.fetch s
  | .halted => .next s
  | .faulted _ => .next s

/-- `s` with the instruction whose bits are `w`, numbered as opcode_table.json numbers them, where `step` fetches next
(log 3). -/
def State.withFetchWord (s : State) (nbits w : Nat) : State := s.placeAtPc (tableBytes nbits w)

end Sys2Proof.Machine
end

