-- ==== Sys2Proof/Machine/HostPort.lean ====
section
/-! DEFINITION. What the outside world can do to the block (R274, R256): `load`, `step` with the stop input and its
StepResult, a direct change of a memory cell or of the registers and flags, and the creation of the Processor State. All of it
happens between steps (R275). -/

namespace Sys2Proof.Machine

/-- `load(image, base)` (R64): refused whole if the image does not fit below 0x10000 (R243), else the image stands at
`base` and no other cell changes. Neither the Processor State nor the engine state is touched. -/
def load (base : Word) (image : List Byte) (s : State) : Answer :=
  if image.length > Config.memorySize ∨ base.toNat + image.length > Config.memorySize then .refused .invalidLoadRequest
  else .next { s with mem := s.mem.writeImage base image }

/-- StepResult (R256): the cycles consumed and the resulting engine state, which carries the reason when FAULTED. -/
structure StepResult where
  cycles : Nat
  engine : Engine
deriving DecidableEq, Repr

/-- The StepResult of a step from `before` to `after`: the counter grows by what the step consumed (R254; log 24). -/
def StepResult.of (before after : State) : StepResult := { cycles := after.cycles - before.cycles, engine := after.engine }

/-- The registers and flags of the Processor State (R20 to R23), which the host may read and write between steps (R256, D26).
The engine state is no part of it: only the step sequencer writes that (R26). -/
structure Registers where
  a : Byte
  x : Byte
  y : Byte
  sp : Byte
  pc : Word
  flags : Flags
deriving DecidableEq, Repr

/-- The registers and flags as the host reads them (R256). -/
def State.registers (s : State) : Registers := { a := s.a, x := s.x, y := s.y, sp := s.sp, pc := s.pc, flags := s.flags }

/-- `s` with these registers and flags; memory, the engine, the cycle counter and the stop level as they were (log 19). -/
def State.withRegisters (s : State) (r : Registers) : State :=
  { s with a := r.a, x := r.x, y := r.y, sp := r.sp, pc := r.pc, flags := r.flags }

/-- One act of the host between or around steps. -/
inductive HostCall where
  /-- `load` (R64). -/
  | load (base : Word) (image : List Byte)
  /-- A direct change of one memory cell (D26). -/
  | poke (addr : Word) (v : Byte)
  /-- A direct change of registers or flags (R256, D26): those the host leaves alone it writes with what it reads there. -/
  | writeRegisters (r : Registers)
  /-- `step` with the stop input at this level (R31, D13). -/
  | step (stop : Bool)
  /-- A new run: the Processor State created anew over memory as it stands (R255, R270). -/
  | create
deriving DecidableEq, Repr

/-- The effect of one act of the host. -/
def hostCall (call : HostCall) (s : State) : Answer :=
  match call with
  | .load base image => load base image s
  | .poke addr v => .next (s.write addr v)
  | .writeRegisters r => .next (s.withRegisters r)
  | .step stop => step { s with stop := stop }
  | .create => .next (State.create s.mem)

/-- The act is a step, whatever the stop input. -/
def HostCall.isStep : HostCall → Bool
  | .load _ _ => false
  | .poke _ _ => false
  | .writeRegisters _ => false
  | .step _ => true
  | .create => false

/-- The premise "the host changes nothing between steps" (R256, D26): every act of the schedule is a step. -/
def hostChangesNothing (calls : List HostCall) : Bool := calls.all HostCall.isStep

/-- A schedule of the host: the state after all its calls; a refused call changes nothing and the schedule goes on (R243). -/
def runCalls : List HostCall → State → State
  | [], s => s
  | call :: rest, s =>
    match hostCall call s with
    | .next t => runCalls rest t
    | .fault _ => runCalls rest s
    | .refused _ => runCalls rest s

/-- Steps until `done` holds or the engine is not READY, at most `fuel` of them: run-to-completion (R257) with
`END_OF_RUN` as the argument `done` (R277, D27; log 22). -/
def runUntil (done : State → Bool) : Nat → State → Answer
  | 0, s => .next s
  | fuel + 1, s =>
    if done s || s.engine != .ready then .next s
    else
      match step s with
      | .next t => runUntil done fuel t
      | .fault r => .fault r
      | .refused r => .refused r

end Sys2Proof.Machine
end

