-- ==== Sys2Proof/Safety.lean ====
section
/-! DEFINITION. What counts as a safe state and a safe run, and the invariant that every step keeps. -/

namespace Sys2Proof.Machine

/-- The engine has not faulted. -/
def State.safe (s : State) : Bool :=
  match s.engine with
  | .ready => true
  | .halted => true
  | .faulted _ => false

/-- A FAULTED engine shows where and what the fault is (R241): PC still designates the recorded address, the cell there
holds the recorded byte, and that byte is one of the 105. OutOfRangeAddress never stands there (R242). -/
def State.faultShown (s : State) : Bool :=
  match s.engine with
  | .ready => true
  | .halted => true
  | .faulted (.illegalOpcode op pc) => pc == s.pc && s.read s.pc == op && isIllegalOpcode op
  | .faulted .outOfRangeAddress => false

/-- The invariant of the block: memory is canonical (R50, log 2) and a fault is shown (R241, R242). -/
def State.Inv (s : State) : Prop := s.mem.wf = true ∧ s.faultShown = true

/-- `n` steps from `s` never fault the engine. -/
def State.safeFor : Nat → State → Bool
  | 0, s => s.safe
  | n + 1, s =>
    s.safe &&
      match step s with
      | .next t => State.safeFor n t
      | .fault _ => false
      | .refused _ => false

end Sys2Proof.Machine
end

