-- ==== Sys2Proof/Certificates/Slice0/Obligations.lean ====
section
/-! DEFINITION. The statements for the provers. Each docstring names the rules it formalises; a clause that rests on a
decision of the spec or of the model names it. `Claims` holds the vocabulary of the statements. -/

open Sys2Proof Sys2Proof.Machine

/-- `i` completes from `s` in `t`, with some number of cycles counted. How many is `Obligations.CyclesChargedByTheTable`. -/
def Sys2Proof.Claims.completes (i : Instr) (s t : State) : Prop :=
  ∃ n, exec i s = .next { t with cycles := s.cycles + n }

/-- Z and N from a result byte (R7), the other flags unchanged. -/
def Sys2Proof.Claims.withZN (f : Flags) (r : Byte) : Flags := { f with z := decide (r = 0), n := decide (128 ≤ r.toNat) }

/-- The signed reading of a byte: -128 .. +127 (R122). -/
def Sys2Proof.Claims.signed (b : Byte) : Int := if b.toNat < 128 then b.toNat else (b.toNat : Int) - 256

/-- The eight rows of a mnemonic that reads an operand, for every operand: the instruction, the operand byte M and PCn. -/
def Sys2Proof.Claims.eightReads (imm zp zpX : Byte → Instr) (abs absX absY : Word → Instr) (indX indY : Byte → Instr)
    (s : State) (P : Instr → Byte → Word → Prop) : Prop :=
  (∀ v, P (imm v) v (s.pc + 2)) ∧
  (∀ a, P (zp a) (s.read (AddrMode.ea (.zp a) s)) (s.pc + 2)) ∧
  (∀ a, P (zpX a) (s.read (AddrMode.ea (.zpX a) s)) (s.pc + 2)) ∧
  (∀ a, P (abs a) (s.read (AddrMode.ea (.abs a) s)) (s.pc + 3)) ∧
  (∀ a, P (absX a) (s.read (AddrMode.ea (.absX a) s)) (s.pc + 3)) ∧
  (∀ a, P (absY a) (s.read (AddrMode.ea (.absY a) s)) (s.pc + 3)) ∧
  (∀ a, P (indX a) (s.read (AddrMode.ea (.indX a) s)) (s.pc + 2)) ∧
  (∀ a, P (indY a) (s.read (AddrMode.ea (.indY a) s)) (s.pc + 2))

/-- The encodings of those eight rows, in the order of R84. -/
def Sys2Proof.Claims.eightOpcodes (imm zp zpX : Byte → Instr) (abs absX absY : Word → Instr) (indX indY : Byte → Instr)
    (o1 o2 o3 o4 o5 o6 o7 o8 : Byte) : Prop :=
  (∀ v, encode (imm v) = [o1, v]) ∧ (∀ a, encode (zp a) = [o2, a]) ∧ (∀ a, encode (zpX a) = [o3, a]) ∧
  (∀ a, encode (abs a) = [o4, loByte a, hiByte a]) ∧ (∀ a, encode (absX a) = [o5, loByte a, hiByte a]) ∧
  (∀ a, encode (absY a) = [o6, loByte a, hiByte a]) ∧ (∀ a, encode (indX a) = [o7, a]) ∧
  (∀ a, encode (indY a) = [o8, a])

/-- The four memory rows of a read-modify-write mnemonic, for every operand: the instruction, `ea` and PCn. -/
def Sys2Proof.Claims.fourCells (zp zpX : Byte → Instr) (abs absX : Word → Instr) (s : State)
    (P : Instr → Word → Word → Prop) : Prop :=
  (∀ a, P (zp a) (AddrMode.ea (.zp a) s) (s.pc + 2)) ∧ (∀ a, P (zpX a) (AddrMode.ea (.zpX a) s) (s.pc + 2)) ∧
  (∀ a, P (abs a) (AddrMode.ea (.abs a) s) (s.pc + 3)) ∧ (∀ a, P (absX a) (AddrMode.ea (.absX a) s) (s.pc + 3))

/-- The encodings of those four rows. -/
def Sys2Proof.Claims.fourOpcodes (zp zpX : Byte → Instr) (abs absX : Word → Instr) (o1 o2 o3 o4 : Byte) : Prop :=
  (∀ a, encode (zp a) = [o1, a]) ∧ (∀ a, encode (zpX a) = [o2, a]) ∧
  (∀ a, encode (abs a) = [o3, loByte a, hiByte a]) ∧ (∀ a, encode (absX a) = [o4, loByte a, hiByte a])

/-- A shift in its Accumulator row and its four memory rows, with the result and the carry out given as numbers. -/
def Sys2Proof.Claims.shiftRows (acc : Instr) (zp zpX : Byte → Instr) (abs absX : Word → Instr)
    (result : Nat → Nat → Nat) (carry : Nat → Bool) (s : State) : Prop :=
  let r := fun v : Byte => BitVec.ofNat 8 (result v.toNat s.flags.c.toNat)
  let f := fun v : Byte => { Claims.withZN s.flags (r v) with c := carry v.toNat }
  Claims.completes acc s { s with a := r s.a, flags := f s.a, pc := s.pc + 1 } ∧
  Claims.fourCells zp zpX abs absX s fun i ea pcn =>
    Claims.completes i s { s with mem := s.mem.write ea (r (s.read ea)), flags := f (s.read ea), pc := pcn }

/-- The flags of a compare of `r` with `m` (R150): unsigned order, equality, bit 7 of the wrapped difference. -/
def Sys2Proof.Claims.compared (f : Flags) (r m : Byte) : Flags :=
  { f with c := decide (m.toNat ≤ r.toNat), z := decide (r = m),
           n := decide (128 ≤ (r.toNat + 256 - m.toNat) % 256) }

/-- A branch that is taken exactly when `cond` holds (R200), with the target as an integer modulo 65,536 (R107, D8). -/
def Sys2Proof.Claims.branches (i : Byte → Instr) (cond : Bool) (s : State) : Prop :=
  ∀ off, Claims.completes (i off) s
    { s with pc := if cond then BitVec.ofInt 16 ((s.pc.toNat : Int) + 2 + Claims.signed off) else s.pc + 2 }

/-- The stack cell of a stack pointer value, as a number: `0x0100 + S` (R21). -/
def Sys2Proof.Claims.stackCell (sp : Byte) : Word := BitVec.ofNat 16 (256 + sp.toNat)

/-- One more cycle where the indexed address leaves the page of the base: `base[7:0] + index > 0xFF` (R115). -/
def Sys2Proof.Claims.crossing (base : Word) (index : Byte) : Nat := if 255 < base.toNat % 256 + index.toNat then 1 else 0

/-- The conditional extra cycle (R276, D23): the 23 rows marked `page`, the 8 branches, and nothing else. -/
def Sys2Proof.Claims.extraCycles (i : Instr) (s : State) : Nat :=
  match i with
  | .adcAbsX b | .sbcAbsX b | .andAbsX b | .oraAbsX b | .eorAbsX b | .cmpAbsX b | .ldaAbsX b | .ldyAbsX b =>
    Claims.crossing b s.x
  | .adcAbsY b | .sbcAbsY b | .andAbsY b | .oraAbsY b | .eorAbsY b | .cmpAbsY b | .ldaAbsY b | .ldxAbsY b =>
    Claims.crossing b s.y
  | .adcIndY z | .sbcIndY z | .andIndY z | .oraIndY z | .eorIndY z | .cmpIndY z | .ldaIndY z =>
    Claims.crossing (s.zpPointer z) s.y
  | .bcc _ => (!s.flags.c).toNat
  | .bcs _ => s.flags.c.toNat
  | .bne _ => (!s.flags.z).toNat
  | .beq _ => s.flags.z.toNat
  | .bpl _ => (!s.flags.n).toNat
  | .bmi _ => s.flags.n.toNat
  | .bvc _ => (!s.flags.v).toNat
  | .bvs _ => s.flags.v.toNat
  | .adcImm _ | .adcZp _ | .adcZpX _ | .adcAbs _ | .adcIndX _ | .sbcImm _ | .sbcZp _ | .sbcZpX _ | .sbcAbs _
  | .sbcIndX _ | .andImm _ | .andZp _ | .andZpX _ | .andAbs _ | .andIndX _ | .oraImm _ | .oraZp _ | .oraZpX _
  | .oraAbs _ | .oraIndX _ | .eorImm _ | .eorZp _ | .eorZpX _ | .eorAbs _ | .eorIndX _ | .bitZp _ | .bitAbs _
  | .aslAcc | .aslZp _ | .aslZpX _ | .aslAbs _ | .aslAbsX _ | .lsrAcc | .lsrZp _ | .lsrZpX _ | .lsrAbs _
  | .lsrAbsX _ | .rolAcc | .rolZp _ | .rolZpX _ | .rolAbs _ | .rolAbsX _ | .rorAcc | .rorZp _ | .rorZpX _
  | .rorAbs _ | .rorAbsX _ | .cmpImm _ | .cmpZp _ | .cmpZpX _ | .cmpAbs _ | .cmpIndX _ | .cpxImm _ | .cpxZp _
  | .cpxAbs _ | .cpyImm _ | .cpyZp _ | .cpyAbs _ | .incZp _ | .incZpX _ | .incAbs _ | .incAbsX _ | .decZp _
  | .decZpX _ | .decAbs _ | .decAbsX _ | .inx | .dex | .iny | .dey | .ldaImm _ | .ldaZp _ | .ldaZpX _
  | .ldaAbs _ | .ldaIndX _ | .ldxImm _ | .ldxZp _ | .ldxZpY _ | .ldxAbs _ | .ldyImm _ | .ldyZp _ | .ldyZpX _
  | .ldyAbs _ | .staZp _ | .staZpX _ | .staAbs _ | .staAbsX _ | .staAbsY _ | .staIndX _ | .staIndY _ | .stxZp _
  | .stxZpY _ | .stxAbs _ | .styZp _ | .styZpX _ | .styAbs _ | .tax | .txa | .tay | .tya | .tsx | .txs | .pha
  | .pla | .php | .plp | .jmpAbs _ | .jmpInd _ | .jsr _ | .rts | .brk | .rti | .clc | .sec | .cli | .sei | .clv
  | .cld | .sed | .nop | .illegal _ => 0

/-- The registry entry of an instruction's opcode byte (R83). -/
def Sys2Proof.Claims.entryOf (i : Instr) : Descriptor :=
  match encode i with
  | op :: _ => registry op
  | [] => illegalDescriptor 0

/-- The registers and flags that a schedule of the host wrote last, and `r` where it wrote none (D26). -/
def Sys2Proof.Claims.lastWritten : List HostCall → Registers → Registers
  | [], r => r
  | .writeRegisters w :: rest, _ => Claims.lastWritten rest w
  | .load _ _ :: rest, r => Claims.lastWritten rest r
  | .poke _ _ :: rest, r => Claims.lastWritten rest r
  | .step _ :: rest, r => Claims.lastWritten rest r
  | .create :: rest, r => Claims.lastWritten rest r

/-- The 65,536 bytes that the host supplies, from address 0 up (R64, R271). -/
def Sys2Proof.Claims.suppliedImage (mem0 : Word → Byte) : List Byte :=
  (List.range Config.memorySize).map fun k => mem0 (BitVec.ofNat 16 k)

/-! ### Encoding, decoding, the step -/

/-- Decoding the bytes of any well-formed instruction gives it back, with every operand at every value, and leaves the bytes
after it (R80, R81, R82, R84). -/
def Obligations.DecodeOfEncodeIsTheInstruction : Prop :=
  ∀ i : Instr, i.wf = true → ∀ rest, decode (encode i ++ rest) = .ok (i, rest)

/-- The other direction: whatever three bytes lie at PC, the decoded instruction is well-formed and its encoding is the
first bytes of the three, as many as its registry entry's mode says (R80, R81, R85). -/
def Obligations.EncodeOfDecodeIsTheBytes : Prop :=
  ∀ op b1 b2 : Byte, (decodeAt op b1 b2).wf = true ∧
    encode (decodeAt op b1 b2) = [op, b1, b2].take (1 + (registry op).mode.operandBytes)

/-- Every byte value resolves to a legal descriptor or to the explicit illegal one, and exactly the 105 of R85 fault:
executing one of them faults the engine and changes nothing else; executing any other leaves the engine as it is. Which bytes
are illegal is D18, PC at the byte is D11. -/
def Obligations.EveryOpcodeByteResolves : Prop :=
  illegalOpcodes.length = 105 ∧ illegalOpcodes.Nodup ∧
  ∀ (op b1 b2 : Byte) (s : State),
    (op ∈ illegalOpcodes → exec (decodeAt op b1 b2) s = .next { s with engine := .faulted (.illegalOpcode op s.pc) }) ∧
    (op ∉ illegalOpcodes → ∃ t, exec (decodeAt op b1 b2) s = .next t ∧ t.engine = s.engine)

/-- The encoding of every row, with every operand: the opcode byte, then the operand bytes, low byte first (R81, R82, R84). The
opcode bytes are D18: the spec's own choice, which its source does not establish (log 14). -/
def Obligations.EveryRowHasItsEncoding : Prop :=
  Claims.eightOpcodes .adcImm .adcZp .adcZpX .adcAbs .adcAbsX .adcAbsY .adcIndX .adcIndY
    0x69 0x65 0x75 0x6D 0x7D 0x79 0x61 0x71 ∧
  Claims.eightOpcodes .sbcImm .sbcZp .sbcZpX .sbcAbs .sbcAbsX .sbcAbsY .sbcIndX .sbcIndY
    0xE9 0xE5 0xF5 0xED 0xFD 0xF9 0xE1 0xF1 ∧
  Claims.eightOpcodes .andImm .andZp .andZpX .andAbs .andAbsX .andAbsY .andIndX .andIndY
    0x29 0x25 0x35 0x2D 0x3D 0x39 0x21 0x31 ∧
  Claims.eightOpcodes .oraImm .oraZp .oraZpX .oraAbs .oraAbsX .oraAbsY .oraIndX .oraIndY
    0x09 0x05 0x15 0x0D 0x1D 0x19 0x01 0x11 ∧
  Claims.eightOpcodes .eorImm .eorZp .eorZpX .eorAbs .eorAbsX .eorAbsY .eorIndX .eorIndY
    0x49 0x45 0x55 0x4D 0x5D 0x59 0x41 0x51 ∧
  (∀ a, encode (.bitZp a) = [0x24, a]) ∧ (∀ a, encode (.bitAbs a) = [0x2C, loByte a, hiByte a]) ∧
  encode .aslAcc = [0x0A] ∧ Claims.fourOpcodes .aslZp .aslZpX .aslAbs .aslAbsX 0x06 0x16 0x0E 0x1E ∧
  encode .lsrAcc = [0x4A] ∧ Claims.fourOpcodes .lsrZp .lsrZpX .lsrAbs .lsrAbsX 0x46 0x56 0x4E 0x5E ∧
  encode .rolAcc = [0x2A] ∧ Claims.fourOpcodes .rolZp .rolZpX .rolAbs .rolAbsX 0x26 0x36 0x2E 0x3E ∧
  encode .rorAcc = [0x6A] ∧ Claims.fourOpcodes .rorZp .rorZpX .rorAbs .rorAbsX 0x66 0x76 0x6E 0x7E ∧
  Claims.eightOpcodes .cmpImm .cmpZp .cmpZpX .cmpAbs .cmpAbsX .cmpAbsY .cmpIndX .cmpIndY
    0xC9 0xC5 0xD5 0xCD 0xDD 0xD9 0xC1 0xD1 ∧
  (∀ v, encode (.cpxImm v) = [0xE0, v]) ∧ (∀ a, encode (.cpxZp a) = [0xE4, a]) ∧
  (∀ a, encode (.cpxAbs a) = [0xEC, loByte a, hiByte a]) ∧
  (∀ v, encode (.cpyImm v) = [0xC0, v]) ∧ (∀ a, encode (.cpyZp a) = [0xC4, a]) ∧
  (∀ a, encode (.cpyAbs a) = [0xCC, loByte a, hiByte a]) ∧
  Claims.fourOpcodes .incZp .incZpX .incAbs .incAbsX 0xE6 0xF6 0xEE 0xFE ∧
  Claims.fourOpcodes .decZp .decZpX .decAbs .decAbsX 0xC6 0xD6 0xCE 0xDE ∧
  encode .inx = [0xE8] ∧ encode .dex = [0xCA] ∧ encode .iny = [0xC8] ∧ encode .dey = [0x88] ∧
  Claims.eightOpcodes .ldaImm .ldaZp .ldaZpX .ldaAbs .ldaAbsX .ldaAbsY .ldaIndX .ldaIndY
    0xA9 0xA5 0xB5 0xAD 0xBD 0xB9 0xA1 0xB1 ∧
  (∀ v, encode (.ldxImm v) = [0xA2, v]) ∧ (∀ a, encode (.ldxZp a) = [0xA6, a]) ∧ (∀ a, encode (.ldxZpY a) = [0xB6, a]) ∧
  (∀ a, encode (.ldxAbs a) = [0xAE, loByte a, hiByte a]) ∧ (∀ a, encode (.ldxAbsY a) = [0xBE, loByte a, hiByte a]) ∧
  (∀ v, encode (.ldyImm v) = [0xA0, v]) ∧ (∀ a, encode (.ldyZp a) = [0xA4, a]) ∧ (∀ a, encode (.ldyZpX a) = [0xB4, a]) ∧
  (∀ a, encode (.ldyAbs a) = [0xAC, loByte a, hiByte a]) ∧ (∀ a, encode (.ldyAbsX a) = [0xBC, loByte a, hiByte a]) ∧
  (∀ a, encode (.staZp a) = [0x85, a]) ∧ (∀ a, encode (.staZpX a) = [0x95, a]) ∧
  (∀ a, encode (.staAbs a) = [0x8D, loByte a, hiByte a]) ∧ (∀ a, encode (.staAbsX a) = [0x9D, loByte a, hiByte a]) ∧
  (∀ a, encode (.staAbsY a) = [0x99, loByte a, hiByte a]) ∧ (∀ a, encode (.staIndX a) = [0x81, a]) ∧
  (∀ a, encode (.staIndY a) = [0x91, a]) ∧ (∀ a, encode (.stxZp a) = [0x86, a]) ∧ (∀ a, encode (.stxZpY a) = [0x96, a]) ∧
  (∀ a, encode (.stxAbs a) = [0x8E, loByte a, hiByte a]) ∧ (∀ a, encode (.styZp a) = [0x84, a]) ∧
  (∀ a, encode (.styZpX a) = [0x94, a]) ∧ (∀ a, encode (.styAbs a) = [0x8C, loByte a, hiByte a]) ∧
  encode .tax = [0xAA] ∧ encode .txa = [0x8A] ∧ encode .tay = [0xA8] ∧ encode .tya = [0x98] ∧ encode .tsx = [0xBA] ∧
  encode .txs = [0x9A] ∧
  encode .pha = [0x48] ∧ encode .pla = [0x68] ∧
  (∀ a, encode (.jmpAbs a) = [0x4C, loByte a, hiByte a]) ∧ (∀ p, encode (.jmpInd p) = [0x6C, loByte p, hiByte p]) ∧
  (∀ a, encode (.jsr a) = [0x20, loByte a, hiByte a]) ∧
  encode .rts = [0x60] ∧
  encode .brk = [0x00] ∧
  encode .rti = [0x40] ∧
  encode .clc = [0x18] ∧ encode .sec = [0x38] ∧ encode .cli = [0x58] ∧ encode .sei = [0x78] ∧ encode .clv = [0xB8] ∧
  encode .cld = [0xD8] ∧ encode .sed = [0xF8] ∧
  (∀ off, encode (.bcc off) = [0x90, off]) ∧ (∀ off, encode (.bcs off) = [0xB0, off]) ∧ (∀ off, encode (.beq off) = [0xF0, off]) ∧
  (∀ off, encode (.bne off) = [0xD0, off]) ∧ (∀ off, encode (.bpl off) = [0x10, off]) ∧ (∀ off, encode (.bmi off) = [0x30, off]) ∧
  (∀ off, encode (.bvc off) = [0x50, off]) ∧ (∀ off, encode (.bvs off) = [0x70, off]) ∧
  encode .php = [0x08] ∧ encode .plp = [0x28] ∧ encode .nop = [0xEA] ∧ (∀ op, encode (.illegal op) = [op])

/-- Words written out from the encodings of the spec decode to the instruction they stand for (R84, R88). -/
def Obligations.SpecWordsDecode : Prop :=
  decode [0xA9, 0x10] = .ok (.ldaImm 0x10, []) ∧ decode [0xAD, 0xCD, 0xAB] = .ok (.ldaAbs 0xABCD, []) ∧
  decode [0x6C, 0xFF, 0x10] = .ok (.jmpInd 0x10FF, []) ∧ decode [0x0A] = .ok (.aslAcc, []) ∧
  decode [0x96, 0xFF] = .ok (.stxZpY 0xFF, []) ∧ decode [0xA1, 0x20] = .ok (.ldaIndX 0x20, []) ∧
  decode [0xB1, 0x20] = .ok (.ldaIndY 0x20, []) ∧ decode [0xD0, 0xFB] = .ok (.bne 0xFB, []) ∧
  decode [0x00] = .ok (.brk, []) ∧ decode [0x02] = .ok (.illegal 0x02, [])

/-- When the engine is READY, no stop is requested and the three bytes at PC (modulo 65,536) decode to `i`, a step is `exec`
of `i`; the step adds nothing around it (R254). -/
def Obligations.StepRunsTheDecodedInstruction : Prop :=
  ∀ (s : State) (i : Instr) (rest : List Byte), s.engine = .ready → s.stop = false →
    decode [s.read s.pc, s.read (s.pc + 1), s.read (s.pc + 2)] = .ok (i, rest) → step s = exec i s

/-- The table word a row is placed by is the instruction the next step runs, from every state. -/
def Obligations.PlacedTableWordIsRun : Prop :=
  ∀ (s : State) (nbits w : Nat) (i : Instr), decodeTableWord nbits w = some i →
    step (s.withFetchWord nbits w) = exec i (s.withFetchWord nbits w)

/-- A store is seen by the very next fetch: STA over the opcode byte of the next instruction makes A that opcode (R62). -/
def Obligations.StoreIsSeenByTheNextFetch : Prop :=
  ∀ s : State, ∃ t, exec (.staAbs (s.pc + 3)) s = .next t ∧ t.pc = s.pc + 3 ∧
    t.fetch = decodeAt s.a (s.read (s.pc + 4)) (s.read (s.pc + 5))

/-! ### Memory, the stack, addressing -/

/-- `MemRead` and `MemWrite` (R51): a write replaces the content of one cell and changes nothing else; a read of the same address
returns the written byte. -/
def Obligations.MemoryWriteReplacesOneCell : Prop :=
  ∀ (s : State) (addr : Word) (v : Byte), (s.write addr v).read addr = v ∧
    (∀ other, other ≠ addr → (s.write addr v).read other = s.read other) ∧
    s.write addr v = { s with mem := (s.write addr v).mem }

/-- A write of the byte a cell already holds changes nothing at all (R54): the very same state, in every state whose memory has the
model's canonical form (log 2). -/
def Obligations.RewritingAHeldByteChangesNothing : Prop :=
  ∀ (s : State) (addr : Word), s.mem.wf = true → s.write addr (s.read addr) = s

/-- The stack (R21, R56): the cell is `0x0100 + S`, always in the stack page; a push stores there and decrements S modulo 256;
a pull increments S and reads; a pull after a push returns the pushed byte and restores S. The order inside a pull is D6. -/
def Obligations.PullReturnsWhatPushStored : Prop :=
  ∀ (s : State) (v : Byte), (stackAddr s.sp).toNat = 256 + s.sp.toNat ∧
    (s.push v) = { s with mem := s.mem.write (Claims.stackCell s.sp) v, sp := BitVec.ofNat 8 ((s.sp.toNat + 255) % 256) } ∧
    (s.push v).top = v ∧ (s.push v).popped.sp = s.sp ∧ s.popped.sp = BitVec.ofNat 8 ((s.sp.toNat + 1) % 256) ∧
    s.top = s.read (Claims.stackCell (s.sp + 1))

/-- The effective addresses as numbers (R104, R105, R106, R108, R109, R110): zero-page sums modulo 256, absolute sums modulo
65,536 (D8). -/
def Obligations.IndexedAddressesWrapAsStated : Prop :=
  ∀ (s : State) (b : Byte) (w : Word),
    (AddrMode.ea (.zp b) s).toNat = b.toNat ∧
    (AddrMode.ea (.zpX b) s).toNat = (b.toNat + s.x.toNat) % 256 ∧
    (AddrMode.ea (.zpY b) s).toNat = (b.toNat + s.y.toNat) % 256 ∧
    AddrMode.ea (.abs w) s = w ∧
    (AddrMode.ea (.absX w) s).toNat = (w.toNat + s.x.toNat) % 65536 ∧
    (AddrMode.ea (.absY w) s).toNat = (w.toNat + s.y.toNat) % 65536

/-- The three indirect modes as numbers (R111, R112, R113): the pointer bytes of `(zp,X)` and `(zp),Y` come from the zero page
(for `(zp),Y` that is D14), the high byte of an Indirect pointer from the pointer's own page, and Y is added last. -/
def Obligations.PointersAreReadAsStated : Prop :=
  ∀ (s : State) (b : Byte) (p : Word),
    let pair := fun lo hi : Nat => 256 * (s.read (BitVec.ofNat 16 hi)).toNat + (s.read (BitVec.ofNat 16 lo)).toNat
    (AddrMode.ea (.indX b) s).toNat = pair ((b.toNat + s.x.toNat) % 256) ((b.toNat + s.x.toNat + 1) % 256) ∧
    (AddrMode.ea (.indY b) s).toNat = (pair b.toNat ((b.toNat + 1) % 256) + s.y.toNat) % 65536 ∧
    (AddrMode.ea (.ind p) s).toNat = pair p.toNat (p.toNat / 256 * 256 + (p.toNat % 256 + 1) % 256)

/-- Page crossing (R115): the two forms of the test agree, also where the add wraps past 0xFFFF. -/
def Obligations.PageCrossingTestsAgree : Prop :=
  ∀ (base : Word) (index : Byte),
    (hiByte (base + zext16 index) ≠ hiByte base ↔ 0xFF < (loByte base).toNat + index.toNat)

/-! ### Results, frames and completion of the instructions. Each equation fixes the whole next state: everything it does not
name is unchanged. -/

/-- ADC (R120), all eight rows: result, C, Z, N, and V when the operands' signs match and differ from the result's. I, D, B, X, Y, S
and memory are unchanged. -/
def Obligations.AdcResult : Prop :=
  ∀ s : State, Claims.eightReads .adcImm .adcZp .adcZpX .adcAbs .adcAbsX .adcAbsY .adcIndX .adcIndY s fun i m pcn =>
    let sum := s.a.toNat + m.toNat + s.flags.c.toNat
    let r := BitVec.ofNat 8 (sum % 256)
    Claims.completes i s { s with
      a := r, pc := pcn
      flags := { Claims.withZN s.flags r with
        c := decide (255 < sum), v := decide (s.a.msb = m.msb ∧ s.a.msb ≠ r.msb) } }

/-- SBC (R121), all eight rows: A - M - (1 - C) modulo 256, C the complement of the borrow, V the signed overflow of the
subtraction. That V is taken with the complemented operand is D7 (C2, log 12). -/
def Obligations.SbcResult : Prop :=
  ∀ s : State, Claims.eightReads .sbcImm .sbcZp .sbcZpX .sbcAbs .sbcAbsX .sbcAbsY .sbcIndX .sbcIndY s fun i m pcn =>
    let borrow : Int := 1 - s.flags.c.toNat
    let diff : Int := (s.a.toNat : Int) - m.toNat - borrow
    let value : Int := Claims.signed s.a - Claims.signed m - borrow
    let r := BitVec.ofInt 8 diff
    Claims.completes i s { s with
      a := r, pc := pcn
      flags := { Claims.withZN s.flags r with
        c := decide (0 ≤ diff), v := decide (value < -128 ∨ 127 < value) } }

/-- The arithmetic laws (R122): ADC and SBC as integer identities with the new carry, and V exactly when the signed sum is out
of range; whatever D holds (R123, D10). -/
def Obligations.AdcCarryAndOverflowIdentities : Prop :=
  ∀ (s : State) (m : Byte), ∃ t u, exec (.adcImm m) s = .next t ∧ exec (.sbcImm m) s = .next u ∧
    t.a.toNat + 256 * t.flags.c.toNat = s.a.toNat + m.toNat + s.flags.c.toNat ∧
    u.a.toNat + 256 * u.flags.c.toNat = s.a.toNat + (255 - m.toNat) + s.flags.c.toNat ∧
    (t.flags.v = true ↔ Claims.signed s.a + Claims.signed m + s.flags.c.toNat < -128 ∨
      127 < Claims.signed s.a + Claims.signed m + s.flags.c.toNat)

/-- AND, ORA, EOR (R130, R131, R132), all eight rows each: A, Z and N; nothing else but PC. -/
def Obligations.LogicalResults : Prop :=
  ∀ s : State,
    Claims.eightReads .andImm .andZp .andZpX .andAbs .andAbsX .andAbsY .andIndX .andIndY s (fun i m pcn =>
      Claims.completes i s { s with a := s.a &&& m, flags := Claims.withZN s.flags (s.a &&& m), pc := pcn }) ∧
    Claims.eightReads .oraImm .oraZp .oraZpX .oraAbs .oraAbsX .oraAbsY .oraIndX .oraIndY s (fun i m pcn =>
      Claims.completes i s { s with a := s.a ||| m, flags := Claims.withZN s.flags (s.a ||| m), pc := pcn }) ∧
    Claims.eightReads .eorImm .eorZp .eorZpX .eorAbs .eorAbsX .eorAbsY .eorIndX .eorIndY s (fun i m pcn =>
      Claims.completes i s { s with a := s.a ^^^ m, flags := Claims.withZN s.flags (s.a ^^^ m), pc := pcn })

/-- BIT (R133), both rows: Z from A & M, N and V from bits 7 and 6 of M; A and memory unchanged. -/
def Obligations.BitTestResult : Prop :=
  ∀ s : State,
    let after := fun (m : Byte) (pcn : Word) => { s with
      pc := pcn
      flags := { s.flags with z := decide (s.a &&& m = 0), n := decide (128 ≤ m.toNat), v := decide (64 ≤ m.toNat % 128) } }
    (∀ a, Claims.completes (.bitZp a) s (after (s.read (AddrMode.ea (.zp a) s)) (s.pc + 2))) ∧
    (∀ a, Claims.completes (.bitAbs a) s (after (s.read (AddrMode.ea (.abs a) s)) (s.pc + 3)))

/-- ASL, LSR, ROL, ROR (R140 to R143), the accumulator and the four memory rows each: the result goes to A
or to the one cell, and C, Z, N are written. The directions are G7. -/
def Obligations.ShiftAndRotateResults : Prop :=
  ∀ s : State,
    Claims.shiftRows .aslAcc .aslZp .aslZpX .aslAbs .aslAbsX (fun v _ => v * 2 % 256) (fun v => decide (128 ≤ v)) s ∧
    Claims.shiftRows .lsrAcc .lsrZp .lsrZpX .lsrAbs .lsrAbsX (fun v _ => v / 2) (fun v => decide (v % 2 = 1)) s ∧
    Claims.shiftRows .rolAcc .rolZp .rolZpX .rolAbs .rolAbsX (fun v c => v * 2 % 256 + c) (fun v => decide (128 ≤ v)) s ∧
    Claims.shiftRows .rorAcc .rorZp .rorZpX .rorAbs .rorAbsX (fun v c => v / 2 + 128 * c) (fun v => decide (v % 2 = 1)) s

/-- ROR is the inverse of ROL on the pair (C, A) (R143), in both orders. -/
def Obligations.RotatesAreInverse : Prop :=
  ∀ s : State, (∃ t u, exec .rolAcc s = .next t ∧ exec .rorAcc t = .next u ∧ u.a = s.a ∧ u.flags.c = s.flags.c) ∧
    (∃ t u, exec .rorAcc s = .next t ∧ exec .rolAcc t = .next u ∧ u.a = s.a ∧ u.flags.c = s.flags.c)

/-- CMP, CPX, CPY (R150, R151, R152), every row: C, Z, N; no register and no cell changes; V is kept. -/
def Obligations.CompareResults : Prop :=
  ∀ s : State,
    Claims.eightReads .cmpImm .cmpZp .cmpZpX .cmpAbs .cmpAbsX .cmpAbsY .cmpIndX .cmpIndY s (fun i m pcn =>
      Claims.completes i s { s with flags := Claims.compared s.flags s.a m, pc := pcn }) ∧
    (∀ v, Claims.completes (.cpxImm v) s { s with flags := Claims.compared s.flags s.x v, pc := s.pc + 2 }) ∧
    (∀ a, Claims.completes (.cpxZp a) s
      { s with flags := Claims.compared s.flags s.x (s.read (AddrMode.ea (.zp a) s)), pc := s.pc + 2 }) ∧
    (∀ a, Claims.completes (.cpxAbs a) s
      { s with flags := Claims.compared s.flags s.x (s.read (AddrMode.ea (.abs a) s)), pc := s.pc + 3 }) ∧
    (∀ v, Claims.completes (.cpyImm v) s { s with flags := Claims.compared s.flags s.y v, pc := s.pc + 2 }) ∧
    (∀ a, Claims.completes (.cpyZp a) s
      { s with flags := Claims.compared s.flags s.y (s.read (AddrMode.ea (.zp a) s)), pc := s.pc + 2 }) ∧
    (∀ a, Claims.completes (.cpyAbs a) s
      { s with flags := Claims.compared s.flags s.y (s.read (AddrMode.ea (.abs a) s)), pc := s.pc + 3 })

/-- INC, DEC (R160, R161), all four rows each: the cell plus or minus 1 modulo 256, Z and N; C, V and every
register but PC unchanged. -/
def Obligations.IncrementDecrementMemory : Prop :=
  ∀ s : State,
    Claims.fourCells .incZp .incZpX .incAbs .incAbsX s (fun i ea pcn =>
      let r := BitVec.ofNat 8 (((s.read ea).toNat + 1) % 256)
      Claims.completes i s { s with mem := s.mem.write ea r, flags := Claims.withZN s.flags r, pc := pcn }) ∧
    Claims.fourCells .decZp .decZpX .decAbs .decAbsX s (fun i ea pcn =>
      let r := BitVec.ofNat 8 (((s.read ea).toNat + 255) % 256)
      Claims.completes i s { s with mem := s.mem.write ea r, flags := Claims.withZN s.flags r, pc := pcn })

/-- INX, DEX, INY, DEY (R162 to R165): the register plus or minus 1 modulo 256, Z and N. -/
def Obligations.IncrementDecrementRegisters : Prop :=
  ∀ s : State,
    let plus := fun b : Byte => BitVec.ofNat 8 ((b.toNat + 1) % 256)
    let minus := fun b : Byte => BitVec.ofNat 8 ((b.toNat + 255) % 256)
    Claims.completes .inx s { s with x := plus s.x, flags := Claims.withZN s.flags (plus s.x), pc := s.pc + 1 } ∧
    Claims.completes .dex s { s with x := minus s.x, flags := Claims.withZN s.flags (minus s.x), pc := s.pc + 1 } ∧
    Claims.completes .iny s { s with y := plus s.y, flags := Claims.withZN s.flags (plus s.y), pc := s.pc + 1 } ∧
    Claims.completes .dey s { s with y := minus s.y, flags := Claims.withZN s.flags (minus s.y), pc := s.pc + 1 }

/-- LDA, LDX, LDY (R170, R171, R172), every row: the register, Z and N; nothing else but PC. -/
def Obligations.LoadResults : Prop :=
  ∀ s : State,
    let toA := fun (m : Byte) (pcn : Word) => { s with a := m, flags := Claims.withZN s.flags m, pc := pcn }
    let toX := fun (m : Byte) (pcn : Word) => { s with x := m, flags := Claims.withZN s.flags m, pc := pcn }
    let toY := fun (m : Byte) (pcn : Word) => { s with y := m, flags := Claims.withZN s.flags m, pc := pcn }
    Claims.eightReads .ldaImm .ldaZp .ldaZpX .ldaAbs .ldaAbsX .ldaAbsY .ldaIndX .ldaIndY s (fun i m pcn =>
      Claims.completes i s (toA m pcn)) ∧
    (∀ v, Claims.completes (.ldxImm v) s (toX v (s.pc + 2))) ∧
    (∀ a, Claims.completes (.ldxZp a) s (toX (s.read (AddrMode.ea (.zp a) s)) (s.pc + 2))) ∧
    (∀ a, Claims.completes (.ldxZpY a) s (toX (s.read (AddrMode.ea (.zpY a) s)) (s.pc + 2))) ∧
    (∀ a, Claims.completes (.ldxAbs a) s (toX (s.read (AddrMode.ea (.abs a) s)) (s.pc + 3))) ∧
    (∀ a, Claims.completes (.ldxAbsY a) s (toX (s.read (AddrMode.ea (.absY a) s)) (s.pc + 3))) ∧
    (∀ v, Claims.completes (.ldyImm v) s (toY v (s.pc + 2))) ∧
    (∀ a, Claims.completes (.ldyZp a) s (toY (s.read (AddrMode.ea (.zp a) s)) (s.pc + 2))) ∧
    (∀ a, Claims.completes (.ldyZpX a) s (toY (s.read (AddrMode.ea (.zpX a) s)) (s.pc + 2))) ∧
    (∀ a, Claims.completes (.ldyAbs a) s (toY (s.read (AddrMode.ea (.abs a) s)) (s.pc + 3))) ∧
    (∀ a, Claims.completes (.ldyAbsX a) s (toY (s.read (AddrMode.ea (.absX a) s)) (s.pc + 3)))

/-- STA, STX, STY (R173, R174, R175), every row: the register is stored at `ea`; no flag and no register but PC
changes. -/
def Obligations.StoreResults : Prop :=
  ∀ s : State,
    let stored := fun (ea : Word) (v : Byte) (pcn : Word) => { s with mem := s.mem.write ea v, pc := pcn }
    (∀ a, Claims.completes (.staZp a) s (stored (AddrMode.ea (.zp a) s) s.a (s.pc + 2))) ∧
    (∀ a, Claims.completes (.staZpX a) s (stored (AddrMode.ea (.zpX a) s) s.a (s.pc + 2))) ∧
    (∀ a, Claims.completes (.staAbs a) s (stored (AddrMode.ea (.abs a) s) s.a (s.pc + 3))) ∧
    (∀ a, Claims.completes (.staAbsX a) s (stored (AddrMode.ea (.absX a) s) s.a (s.pc + 3))) ∧
    (∀ a, Claims.completes (.staAbsY a) s (stored (AddrMode.ea (.absY a) s) s.a (s.pc + 3))) ∧
    (∀ a, Claims.completes (.staIndX a) s (stored (AddrMode.ea (.indX a) s) s.a (s.pc + 2))) ∧
    (∀ a, Claims.completes (.staIndY a) s (stored (AddrMode.ea (.indY a) s) s.a (s.pc + 2))) ∧
    (∀ a, Claims.completes (.stxZp a) s (stored (AddrMode.ea (.zp a) s) s.x (s.pc + 2))) ∧
    (∀ a, Claims.completes (.stxZpY a) s (stored (AddrMode.ea (.zpY a) s) s.x (s.pc + 2))) ∧
    (∀ a, Claims.completes (.stxAbs a) s (stored (AddrMode.ea (.abs a) s) s.x (s.pc + 3))) ∧
    (∀ a, Claims.completes (.styZp a) s (stored (AddrMode.ea (.zp a) s) s.y (s.pc + 2))) ∧
    (∀ a, Claims.completes (.styZpX a) s (stored (AddrMode.ea (.zpX a) s) s.y (s.pc + 2))) ∧
    (∀ a, Claims.completes (.styAbs a) s (stored (AddrMode.ea (.abs a) s) s.y (s.pc + 3)))

/-- What an instruction stores in memory, as the list of its stored cells: the effective address for a store or a
read-modify-write, the stack cells for a push, JSR and BRK, nothing for every other instruction (R66, R67, R114). -/
def Sys2Proof.Claims.storedCells (i : Instr) (s : State) : List Word :=
  match i with
  | .staZp a | .stxZp a | .styZp a | .aslZp a | .lsrZp a | .rolZp a | .rorZp a | .incZp a | .decZp a =>
    [AddrMode.ea (.zp a) s]
  | .staZpX a | .styZpX a | .aslZpX a | .lsrZpX a | .rolZpX a | .rorZpX a | .incZpX a | .decZpX a =>
    [AddrMode.ea (.zpX a) s]
  | .stxZpY a => [AddrMode.ea (.zpY a) s]
  | .staAbs a | .stxAbs a | .styAbs a | .aslAbs a | .lsrAbs a | .rolAbs a | .rorAbs a | .incAbs a | .decAbs a =>
    [AddrMode.ea (.abs a) s]
  | .staAbsX a | .aslAbsX a | .lsrAbsX a | .rolAbsX a | .rorAbsX a | .incAbsX a | .decAbsX a =>
    [AddrMode.ea (.absX a) s]
  | .staAbsY a => [AddrMode.ea (.absY a) s]
  | .staIndX a => [AddrMode.ea (.indX a) s]
  | .staIndY a => [AddrMode.ea (.indY a) s]
  | .pha | .php => [stackAddr s.sp]
  | .jsr _ => [stackAddr s.sp, stackAddr (s.sp - 1)]
  | .brk => [stackAddr s.sp, stackAddr (s.sp - 1), stackAddr (s.sp - 2)]
  | .adcImm _ | .adcZp _ | .adcZpX _ | .adcAbs _ | .adcAbsX _ | .adcAbsY _ | .adcIndX _ | .adcIndY _
  | .sbcImm _ | .sbcZp _ | .sbcZpX _ | .sbcAbs _ | .sbcAbsX _ | .sbcAbsY _ | .sbcIndX _ | .sbcIndY _
  | .andImm _ | .andZp _ | .andZpX _ | .andAbs _ | .andAbsX _ | .andAbsY _ | .andIndX _ | .andIndY _
  | .oraImm _ | .oraZp _ | .oraZpX _ | .oraAbs _ | .oraAbsX _ | .oraAbsY _ | .oraIndX _ | .oraIndY _
  | .eorImm _ | .eorZp _ | .eorZpX _ | .eorAbs _ | .eorAbsX _ | .eorAbsY _ | .eorIndX _ | .eorIndY _ | .bitZp _
  | .bitAbs _ | .aslAcc | .lsrAcc | .rolAcc | .rorAcc | .cmpImm _ | .cmpZp _ | .cmpZpX _ | .cmpAbs _
  | .cmpAbsX _ | .cmpAbsY _ | .cmpIndX _ | .cmpIndY _ | .cpxImm _ | .cpxZp _ | .cpxAbs _ | .cpyImm _ | .cpyZp _
  | .cpyAbs _ | .inx | .dex | .iny | .dey | .ldaImm _ | .ldaZp _ | .ldaZpX _ | .ldaAbs _ | .ldaAbsX _
  | .ldaAbsY _ | .ldaIndX _ | .ldaIndY _ | .ldxImm _ | .ldxZp _ | .ldxZpY _ | .ldxAbs _ | .ldxAbsY _
  | .ldyImm _ | .ldyZp _ | .ldyZpX _ | .ldyAbs _ | .ldyAbsX _ | .tax | .txa | .tay | .tya | .tsx | .txs | .pla
  | .plp | .bcc _ | .bcs _ | .beq _ | .bne _ | .bpl _ | .bmi _ | .bvc _ | .bvs _ | .jmpAbs _ | .jmpInd _ | .rts
  | .rti | .clc | .sec | .cli | .sei | .clv | .cld | .sed | .nop | .illegal _ => []

/-- The memory frame of every instruction: every byte outside the cells it stores to reads as before, and an instruction that
stores nothing leaves the whole memory as it is (R51, R66, R67). -/
def Obligations.OnlyTheStoredCellsChange : Prop :=
  ∀ (i : Instr) (s : State), ∃ t, exec i s = .next t ∧
    (∀ addr, addr ∉ Claims.storedCells i s → t.read addr = s.read addr) ∧
    (Claims.storedCells i s = [] → t.mem = s.mem)

/-- TAX, TXA, TAY, TYA, TSX, TXS (R180 to R185): the copy, Z and N except for TXS. -/
def Obligations.TransferResults : Prop :=
  ∀ s : State,
    Claims.completes .tax s { s with x := s.a, flags := Claims.withZN s.flags s.a, pc := s.pc + 1 } ∧
    Claims.completes .txa s { s with a := s.x, flags := Claims.withZN s.flags s.x, pc := s.pc + 1 } ∧
    Claims.completes .tay s { s with y := s.a, flags := Claims.withZN s.flags s.a, pc := s.pc + 1 } ∧
    Claims.completes .tya s { s with a := s.y, flags := Claims.withZN s.flags s.y, pc := s.pc + 1 } ∧
    Claims.completes .tsx s { s with x := s.sp, flags := Claims.withZN s.flags s.sp, pc := s.pc + 1 } ∧
    Claims.completes .txs s { s with sp := s.x, pc := s.pc + 1 }

/-- PHA and PLA (R186, R187): the push at `0x0100 + S`, the pull from `0x0100 + (S + 1) mod 256`, S modulo
256, Z and N of the pulled byte. -/
def Obligations.PhaAndPlaResults : Prop :=
  ∀ s : State,
    Claims.completes .pha s
      { s with mem := s.mem.write (Claims.stackCell s.sp) s.a, sp := s.sp - 1, pc := s.pc + 1 } ∧
    Claims.completes .pla s
      { s with a := s.read (Claims.stackCell (s.sp + 1)), sp := s.sp + 1, pc := s.pc + 1,
               flags := Claims.withZN s.flags (s.read (Claims.stackCell (s.sp + 1))) }

/-- PHP and PLP (R188, R189) with the layout of R24: bit by bit, the pushed byte is N V 1 B D I Z C, and all seven flags come
from the pulled byte. The layout is D1, bit 5 is D2, the stored B is D5 (logs 6, 7). -/
def Obligations.PhpAndPlpResults : Prop :=
  ∀ s : State,
    (∃ v : Byte, Claims.completes .php s { s with mem := s.mem.write (Claims.stackCell s.sp) v, sp := s.sp - 1, pc := s.pc + 1 } ∧
      v.getLsbD 7 = s.flags.n ∧ v.getLsbD 6 = s.flags.v ∧ v.getLsbD 5 = true ∧ v.getLsbD 4 = s.flags.b ∧
      v.getLsbD 3 = s.flags.d ∧ v.getLsbD 2 = s.flags.i ∧ v.getLsbD 1 = s.flags.z ∧ v.getLsbD 0 = s.flags.c) ∧
    (let v := s.read (Claims.stackCell (s.sp + 1))
     Claims.completes .plp s { s with
       sp := s.sp + 1, pc := s.pc + 1
       flags := { n := v.getLsbD 7, v := v.getLsbD 6, b := v.getLsbD 4, d := v.getLsbD 3, i := v.getLsbD 2,
                  z := v.getLsbD 1, c := v.getLsbD 0 } })

/-- Round trips on the stack (R56, R188, R189): PHA then PLA restores A and S; PHP then PLP restores all flags and S; PLP then
PHP puts the pulled byte back with bit 5 set. -/
def Obligations.StackRoundTrips : Prop :=
  ∀ s : State,
    (∃ t u, exec .pha s = .next t ∧ exec .pla t = .next u ∧ u.a = s.a ∧ u.sp = s.sp) ∧
    (∃ t u, exec .php s = .next t ∧ exec .plp t = .next u ∧ u.flags = s.flags ∧ u.sp = s.sp) ∧
    (∃ t u, exec .plp s = .next t ∧ exec .php t = .next u ∧ u.sp = s.sp ∧
      u.read (Claims.stackCell (s.sp + 1)) = s.read (Claims.stackCell (s.sp + 1)) ||| 0x20)

/-- The eight branches (R200 to R208): taken exactly on their flag and polarity, to PCn plus the signed
offset modulo 65,536 (D8), else to PCn; nothing but PC changes. The pairing of names and flags is G8. -/
def Obligations.BranchResults : Prop :=
  ∀ s : State,
    Claims.branches .bcc (decide (s.flags.c = false)) s ∧ Claims.branches .bcs (decide (s.flags.c = true)) s ∧
    Claims.branches .beq (decide (s.flags.z = true)) s ∧ Claims.branches .bne (decide (s.flags.z = false)) s ∧
    Claims.branches .bpl (decide (s.flags.n = false)) s ∧ Claims.branches .bmi (decide (s.flags.n = true)) s ∧
    Claims.branches .bvc (decide (s.flags.v = false)) s ∧ Claims.branches .bvs (decide (s.flags.v = true)) s

/-- JMP (R209, R111), both rows: PC is the operand, or the pair read through the pointer with the page-wrap
defect; nothing else changes. -/
def Obligations.JumpResults : Prop :=
  ∀ (s : State) (a p : Word),
    Claims.completes (.jmpAbs a) s { s with pc := a } ∧
    Claims.completes (.jmpInd p) s
      { s with pc := wordOfBytes (s.read p) (s.read (BitVec.ofNat 16 (p.toNat / 256 * 256 + (p.toNat % 256 + 1) % 256))) }

/-- JSR (R210): PC0 + 2 is pushed, high byte first, S decreases by 2 modulo 256, PC is the operand; no flag and
no other register changes. -/
def Obligations.JsrResult : Prop :=
  ∀ (s : State) (a : Word),
    Claims.completes (.jsr a) s { s with
      mem := (s.mem.write (Claims.stackCell s.sp) (BitVec.ofNat 8 ((s.pc + 2).toNat / 256))).write
        (Claims.stackCell (s.sp - 1)) (BitVec.ofNat 8 ((s.pc + 2).toNat % 256))
      sp := s.sp - 2, pc := a }

/-- RTS (R211): the low byte is pulled first, then the high byte, and PC is their pair plus 1 modulo 65,536; S
increases by 2 modulo 256; memory and flags are unchanged. -/
def Obligations.RtsResult : Prop :=
  ∀ s : State,
    let lo := (s.read (Claims.stackCell (s.sp + 1))).toNat
    let hi := (s.read (Claims.stackCell (s.sp + 2))).toNat
    Claims.completes .rts s { s with sp := s.sp + 2, pc := BitVec.ofNat 16 ((256 * hi + lo + 1) % 65536) }

/-- JSR then RTS (the round-trip property in R211), for every S, those where S wraps among them: PC is the instruction after the
JSR, S and every other register and flag are as before. -/
def Obligations.JsrThenRtsReturns : Prop :=
  ∀ (s : State) (a : Word), ∃ t u, exec (.jsr a) s = .next t ∧ t.pc = a ∧ exec .rts t = .next u ∧
    u.pc = s.pc + 3 ∧ u.sp = s.sp ∧ u.a = s.a ∧ u.x = s.x ∧ u.y = s.y ∧ u.flags = s.flags

/-- BRK (R220, R246): PC0 + 2 high, low and the flags byte with bits 4 and 5 set are pushed, I is set, PC is loaded from 0xFFFE
and 0xFFFF, S decreases by 3 modulo 256; every other flag and register is unchanged. PC0 + 2 is D9, bit 5 is D2, the kept B is
D5. -/
def Obligations.BrkEntersTheHandler : Prop :=
  ∀ s : State, ∃ (p : Byte) (m : Memory),
    Claims.completes .brk s { s with
      mem := m, sp := s.sp - 3, flags := { s.flags with i := true }
      pc := BitVec.ofNat 16 (256 * (s.read 0xFFFF).toNat + (s.read 0xFFFE).toNat) } ∧
    m.read (Claims.stackCell s.sp) = BitVec.ofNat 8 ((s.pc + 2).toNat / 256) ∧
    m.read (Claims.stackCell (s.sp - 1)) = BitVec.ofNat 8 ((s.pc + 2).toNat % 256) ∧
    m.read (Claims.stackCell (s.sp - 2)) = p ∧
    (∀ addr, addr ∉ [Claims.stackCell s.sp, Claims.stackCell (s.sp - 1), Claims.stackCell (s.sp - 2)] →
      m.read addr = s.read addr) ∧
    p.getLsbD 7 = s.flags.n ∧ p.getLsbD 6 = s.flags.v ∧ p.getLsbD 5 = true ∧ p.getLsbD 4 = true ∧
    p.getLsbD 3 = s.flags.d ∧ p.getLsbD 2 = s.flags.i ∧ p.getLsbD 1 = s.flags.z ∧ p.getLsbD 0 = s.flags.c

/-- RTI (R221, R247): all seven flags from the first pulled byte, PC from the next two with no adjustment, S
increases by 3 modulo 256; memory is unchanged. That B is loaded is D5. -/
def Obligations.RtiReturns : Prop :=
  ∀ s : State,
    let v := s.read (Claims.stackCell (s.sp + 1))
    let lo := (s.read (Claims.stackCell (s.sp + 2))).toNat
    let hi := (s.read (Claims.stackCell (s.sp + 3))).toNat
    Claims.completes .rti s { s with
      sp := s.sp + 3, pc := BitVec.ofNat 16 (256 * hi + lo)
      flags := { n := v.getLsbD 7, v := v.getLsbD 6, b := v.getLsbD 4, d := v.getLsbD 3, i := v.getLsbD 2,
                 z := v.getLsbD 1, c := v.getLsbD 0 } }

/-- BRK then RTI (R220, R221), for every S: PC is PC0 + 2, S, A, X, Y and every flag but B are as before, and B is 1 (R221: BRK
pushed bit 4 = 1; log 7). -/
def Obligations.BrkThenRtiResumes : Prop :=
  ∀ s : State, ∃ t u, exec .brk s = .next t ∧ exec .rti t = .next u ∧
    u.pc = s.pc + 2 ∧ u.sp = s.sp ∧ u.a = s.a ∧ u.x = s.x ∧ u.y = s.y ∧ u.flags = { s.flags with b := true }

/-- CLC, SEC, CLI, SEI, CLV, CLD, SED (R222 to R228): the named flag only. -/
def Obligations.FlagInstructionResults : Prop :=
  ∀ s : State,
    Claims.completes .clc s { s with flags := { s.flags with c := false }, pc := s.pc + 1 } ∧
    Claims.completes .sec s { s with flags := { s.flags with c := true }, pc := s.pc + 1 } ∧
    Claims.completes .cli s { s with flags := { s.flags with i := false }, pc := s.pc + 1 } ∧
    Claims.completes .sei s { s with flags := { s.flags with i := true }, pc := s.pc + 1 } ∧
    Claims.completes .clv s { s with flags := { s.flags with v := false }, pc := s.pc + 1 } ∧
    Claims.completes .cld s { s with flags := { s.flags with d := false }, pc := s.pc + 1 } ∧
    Claims.completes .sed s { s with flags := { s.flags with d := true }, pc := s.pc + 1 }

/-- NOP (R229): no state change besides the PC advance (and the cycle counter). -/
def Obligations.NopChangesOnlyThePc : Prop :=
  ∀ s : State, Claims.completes .nop s { s with pc := s.pc + 1 }

/-- IllegalOpcode (R241) by the illegal descriptor: the engine is FAULTED with the byte and its address; A, X, Y, S, flags,
memory, cycles and PC are unchanged. That PC stays at the byte is D11; that a fault is a next state is log 1. -/
def Obligations.IllegalOpcodeFaultsPrecisely : Prop :=
  ∀ (op : Byte) (s : State), exec (.illegal op) s = .next { s with engine := .faulted (.illegalOpcode op s.pc) }

/-! ### Rules of the whole machine -/

/-- Every legal instruction adds its registry entry's base cycles and its conditional extra cycle (R254 line 8, R276); the total is
2 to 7; the illegal descriptor adds 0. The numbers are D17, the condition is D23 (log 5). -/
def Obligations.CyclesChargedByTheTable : Prop :=
  ∀ (i : Instr) (s : State), i.wf = true → ∃ t, exec i s = .next t ∧
    t.cycles = s.cycles + (Claims.entryOf i).cycles + Claims.extraCycles i s ∧
    ((Claims.entryOf i).mode ≠ .illegal →
      2 ≤ (Claims.entryOf i).cycles ∧ (Claims.entryOf i).cycles + Claims.extraCycles i s ≤ 7)

/-- Every step answers a next state: no step ends in a fault outcome or a refusal (R245, R254, R256). -/
def Obligations.EveryStepAnswersNext : Prop := ∀ s : State, ∃ t, step s = .next t

/-- The transitions of the engine are exactly those of R255: from READY to HALTED on a stop request, to FAULTED on an illegal byte
at PC, else to READY; HALTED and FAULTED are absorbing and a step there changes nothing (D12); a stop executes no instruction
(D13). -/
def Obligations.EngineTransitionsAreExact : Prop :=
  ∀ s : State,
    (s.engine ≠ .ready → step s = .next s) ∧
    (s.engine = .ready → s.stop = true → step s = .next { s with engine := .halted }) ∧
    (s.engine = .ready → s.stop = false → ∃ t, step s = .next t ∧
      t.engine = if isIllegalOpcode (s.read s.pc) then .faulted (.illegalOpcode (s.read s.pc) s.pc) else .ready)

/-- From every state with the invariant, whatever a step answers has it: memory stays canonical, and a FAULTED engine shows its
fault, one of the 105 bytes standing at PC (R241, R242, R255; the canonical form is log 2). -/
def Obligations.StepKeepsTheInvariant : Prop :=
  ∀ s t : State, s.Inv → step s = .next t → t.Inv

/-- The state after reset has the invariant, whatever memory the host supplied for the run (R33, D16); with it the one state
`State.reset`, whose empty memory list is log 2. -/
def Obligations.ResetHasTheInvariant : Prop := (∀ mem0 : Word → Byte, (State.resetOver mem0).Inv) ∧ State.reset.Inv

/-- Creation of the Processor State over any memory (R270): the reset values, PC from 0xFFFC and 0xFFFD, and no memory cell
written. The vector's address is D3, the five clear flags are D4, the counter's start is D17 (log 8); the stop level is log 4. -/
def Obligations.CreationGivesTheResetValues : Prop :=
  ∀ m : Memory, State.create m =
    { a := 0, x := 0, y := 0, sp := 0xFD, mem := m, engine := .ready, cycles := 0, stop := false
      pc := BitVec.ofNat 16 (256 * (m.read 0xFFFD).toNat + (m.read 0xFFFC).toNat)
      flags := { n := false, v := false, b := true, d := false, i := true, z := false, c := false } } ∧
    (State.create m).flags.pack (State.create m).flags.b = 0x34

/-- `load` (R64, R243): an image that fits stands at its base and no other cell changes; one that does not is refused; nothing but
memory is ever touched. -/
def Obligations.LoadReplacesExactlyTheImage : Prop :=
  ∀ (base : Word) (image : List Byte) (s : State),
    (65536 < base.toNat + image.length → load base image s = .refused .invalidLoadRequest) ∧
    (base.toNat + image.length ≤ 65536 → ∃ t, load base image s = .next t ∧ t = { s with mem := t.mem } ∧
      (∀ k (h : k < image.length), t.read (base + BitVec.ofNat 16 k) = image[k]) ∧
      (∀ addr : Word, addr.toNat < base.toNat ∨ base.toNat + image.length ≤ addr.toNat → t.read addr = s.read addr))

/-- No act of the host but the creation of a new Processor State leaves FAULTED, and steps and loads change no register, flag or
cycle count of a faulted run: its registers are those the host itself wrote last (R255, D12; the host's freedom is D26, log 19). -/
def Obligations.FaultedIsAbsorbing : Prop :=
  ∀ (calls : List HostCall) (s : State) (r : Fault), HostCall.create ∉ calls → s.engine = .faulted r →
    let t := runCalls calls s
    t.engine = .faulted r ∧ t.cycles = s.cycles ∧ t.registers = Claims.lastWritten calls s.registers ∧
    ((∀ w, HostCall.writeRegisters w ∉ calls) →
      t.a = s.a ∧ t.x = s.x ∧ t.y = s.y ∧ t.sp = s.sp ∧ t.pc = s.pc ∧ t.flags = s.flags)

/-- The StepResult of every step (R254, R256): the engine state it reports is the resulting one; a step that leaves the engine in
READY consumed 2 to 7 cycles, any other step consumed 0 (D11, D12, D13, D17: logs 1, 5, 18). -/
def Obligations.StepResultReportsTheStep : Prop :=
  ∀ s t : State, step s = .next t →
    (StepResult.of s t).engine = t.engine ∧ t.cycles = s.cycles + (StepResult.of s t).cycles ∧
    (t.engine = .ready → 2 ≤ (StepResult.of s t).cycles ∧ (StepResult.of s t).cycles ≤ 7) ∧
    (t.engine ≠ .ready → (StepResult.of s t).cycles = 0)

/-- Run to completion (R257) is the iteration of `step`, with any end of a run (R277, D27, log 22): with no step allowed it is the
state as it stands, where the run is not over it goes on from the next state of one step, it takes no step from a state where the
run is over, it always answers a next state, and a run that is over stays as it is however many steps it may still take. -/
def Obligations.RunsEndWhereTheySay : Prop :=
  ∀ (done : State → Bool) (n : Nat) (s : State),
    runUntil done 0 s = .next s ∧
    (done s = false → s.engine = .ready → ∃ u, step s = .next u ∧ runUntil done (n + 1) s = runUntil done n u) ∧
    ∃ t, runUntil done n s = .next t ∧
      (done s = true ∨ s.engine ≠ .ready → t = s) ∧
      (done t = true ∨ t.engine ≠ .ready → ∀ k, runUntil done (n + k) s = .next t)

/-- Who writes A, X, Y and S (the table of R20 and the list of R21): a register that changes was changed by one of its writers. -/
def Obligations.RegistersChangeOnlyByTheirWriters : Prop :=
  ∀ (i : Instr) (s t : State), i.wf = true → exec i s = .next t →
    let name := (Claims.entryOf i).mnemonic
    (t.a ≠ s.a → name ∈ ["ADC", "SBC", "AND", "ORA", "EOR", "LDA", "TXA", "TYA", "PLA"] ∨
      name ∈ ["ASL", "LSR", "ROL", "ROR"] ∧ (Claims.entryOf i).mode = .accumulator) ∧
    (t.x ≠ s.x → name ∈ ["LDX", "TAX", "TSX", "INX", "DEX"]) ∧
    (t.y ≠ s.y → name ∈ ["LDY", "TAY", "INY", "DEY"]) ∧
    (t.sp ≠ s.sp → name ∈ ["TXS", "PHA", "PHP", "JSR", "BRK", "PLA", "PLP", "RTS", "RTI"])

/-- Who writes each flag (the table of R23): a flag that changes was changed by one of its writers. -/
def Obligations.FlagsChangeOnlyByTheirWriters : Prop :=
  ∀ (i : Instr) (s t : State), i.wf = true → exec i s = .next t →
    let name := (Claims.entryOf i).mnemonic
    (t.flags.c ≠ s.flags.c →
      name ∈ ["ADC", "SBC", "ASL", "LSR", "ROL", "ROR", "CMP", "CPX", "CPY", "CLC", "SEC", "PLP", "RTI"]) ∧
    (t.flags.z ≠ s.flags.z ∨ t.flags.n ≠ s.flags.n →
      name ∈ ["ADC", "SBC", "AND", "ORA", "EOR", "BIT", "ASL", "LSR", "ROL", "ROR", "CMP", "CPX", "CPY", "INC", "DEC"] ++
        ["INX", "DEX", "INY", "DEY", "LDA", "LDX", "LDY", "TAX", "TXA", "TAY", "TYA", "TSX", "PLA", "PLP", "RTI"]) ∧
    (t.flags.i ≠ s.flags.i → name ∈ ["SEI", "CLI", "BRK", "PLP", "RTI"]) ∧
    (t.flags.d ≠ s.flags.d → name ∈ ["SED", "CLD", "PLP", "RTI"]) ∧
    (t.flags.b ≠ s.flags.b → name ∈ ["PLP", "RTI"]) ∧
    (t.flags.v ≠ s.flags.v → name ∈ ["ADC", "SBC", "BIT", "CLV", "PLP", "RTI"])

/-- I and D have no effect but being pushed (R123, R244; D10, D20): two states that differ only in I and D go to states that agree
on every register, on PC, the cycle counter, the engine and the other flags, and, unless the instruction pushes the flags byte,
on memory. -/
def Obligations.InterruptAndDecimalFlagsHaveNoEffect : Prop :=
  ∀ (k : Instr) (s : State) (d' i' : Bool), ∃ t u, exec k s = .next t ∧
    exec k { s with flags := { s.flags with d := d', i := i' } } = .next u ∧
    u.a = t.a ∧ u.x = t.x ∧ u.y = t.y ∧ u.sp = t.sp ∧ u.pc = t.pc ∧ u.cycles = t.cycles ∧ u.engine = t.engine ∧
    u.flags.n = t.flags.n ∧ u.flags.v = t.flags.v ∧ u.flags.b = t.flags.b ∧ u.flags.z = t.flags.z ∧
    u.flags.c = t.flags.c ∧ (k ≠ .php → k ≠ .brk → u.mem = t.mem)

/-- A direct change by the host between steps (R256, D26, log 19) is exact: of the registers and flags, every one of them has the
value written and nothing else changes; of one memory cell, that cell reads as written, every other as before, and nothing but
memory changes. -/
def Obligations.HostWritesAreExact : Prop :=
  ∀ s : State,
    (∀ r : Registers, hostCall (.writeRegisters r) s =
      .next { s with a := r.a, x := r.x, y := r.y, sp := r.sp, pc := r.pc, flags := r.flags }) ∧
    (∀ (addr : Word) (v : Byte), ∃ t, hostCall (.poke addr v) s = .next t ∧ t = { s with mem := t.mem } ∧
      t.read addr = v ∧ ∀ b, b ≠ addr → t.read b = s.read b)

/-- Whole runs, under the named premise of R256 and D26 that the host changes nothing between steps, whatever the stop input at
each step: the invariant holds after any number of steps if it held before them (R241, R242; the canonical form is log 2). -/
def Obligations.RunsKeepTheInvariant : Prop :=
  ∀ (calls : List HostCall) (s : State), hostChangesNothing calls = true → s.Inv → (runCalls calls s).Inv

/-- What the host supplies is a parameter of the run, and no cell is assumed to hold anything (R33, R64, R271, D16): for every
total `mem0`, the state after reset reads as `mem0` in every cell and takes PC from its cells 0xFFFC and 0xFFFD (D3); and the host
makes that state from any state with a canonical memory (log 2), `State.reset` among them, by loading the 65,536 bytes at 0 and
creating the Processor State. -/
def Obligations.AnySuppliedMemoryStartsARun : Prop :=
  ∀ mem0 : Word → Byte,
    (∀ addr, (State.resetOver mem0).read addr = mem0 addr) ∧
    (State.resetOver mem0).pc = BitVec.ofNat 16 (256 * (mem0 0xFFFD).toNat + (mem0 0xFFFC).toNat) ∧
    ∀ s : State, s.mem.wf = true →
      runCalls [.load 0 (Claims.suppliedImage mem0), .create] s = State.resetOver mem0
end

