-- ==== Sys2Proof/Laws/Decode.lean ====
section
/-! SUPPORT. Laws of the byte-order helpers and of the decoder. -/

namespace Sys2Proof

theorem wordOfBytes_toNat (lo hi : Byte) : (wordOfBytes lo hi).toNat = hi.toNat * 256 + lo.toNat := by
  have hcat : (wordOfBytes lo hi).toNat = hi.toNat <<< 8 ||| lo.toNat := BitVec.toNat_append hi lo
  rw [hcat, ← Nat.shiftLeft_add_eq_or_of_lt lo.isLt, Nat.shiftLeft_eq]

theorem loByte_toNat (w : Word) : (loByte w).toNat = w.toNat % 256 := by simp [loByte]

theorem hiByte_toNat (w : Word) : (hiByte w).toNat = w.toNat / 256 := by
  have := w.isLt
  simp only [hiByte, BitVec.extractLsb'_toNat, Nat.shiftRight_eq_div_pow]
  omega

@[simp] theorem loByte_wordOfBytes (lo hi : Byte) : loByte (wordOfBytes lo hi) = lo := by
  have := lo.isLt
  apply BitVec.eq_of_toNat_eq
  rw [loByte_toNat, wordOfBytes_toNat]
  omega

@[simp] theorem hiByte_wordOfBytes (lo hi : Byte) : hiByte (wordOfBytes lo hi) = hi := by
  have := lo.isLt
  apply BitVec.eq_of_toNat_eq
  rw [hiByte_toNat, wordOfBytes_toNat]
  omega

@[simp] theorem wordOfBytes_lo_hi (w : Word) : wordOfBytes (loByte w) (hiByte w) = w := by
  apply BitVec.eq_of_toNat_eq
  rw [wordOfBytes_toNat, loByte_toNat, hiByte_toNat]
  omega

/-- A registry entry consumes as many operand bytes as its mode says (R81). -/
theorem registry_arity (op : Byte) : (registry op).build.arity = (registry op).mode.operandBytes := by
  revert op; decide

theorem consume_two (b : Build) (b1 b2 : Byte) : ∃ rest, b.consume [b1, b2] = some (b.instr b1 b2, rest) := by
  cases b <;> exact ⟨_, rfl⟩

/-- Reading an instruction with two bytes at hand is what the list decoder reads from them. -/
theorem decode_three (op b1 b2 : Byte) : ∃ rest, decode [op, b1, b2] = .ok (decodeAt op b1 b2, rest) := by
  obtain ⟨rest, h⟩ := consume_two (registry op).build b1 b2
  exact ⟨rest, by simp only [decode, h]; rfl⟩

/-- What the list decoder reads from three bytes is what the fetch reads from them. -/
theorem decodeAt_of_decode {op b1 b2 : Byte} {i : Instr} {rest : List Byte}
    (h : decode [op, b1, b2] = .ok (i, rest)) : decodeAt op b1 b2 = i := by
  obtain ⟨r, hr⟩ := decode_three op b1 b2
  rw [hr] at h
  injection h with h
  exact congrArg Prod.fst h

end Sys2Proof
end

