-- ==== Sys2Proof/Laws/Flags.lean ====
section
/-! SUPPORT. What the flag computations of Flags.lean are as numbers: one lemma for each, for the provers to cite. -/

namespace Sys2Proof.Machine

/-- N of a result byte is its bit 7, which says 128 or more. -/
theorem Flags.setZN_eq (f : Flags) (r : Byte) : f.setZN r = { f with z := decide (r = 0), n := decide (128 ≤ r.toNat) } := by
  simp only [Flags.setZN, BitVec.msb_eq_decide]; rfl

theorem addSum_lt (a m : Byte) (c : Bool) : addSum a m c < 512 := by
  have := a.isLt; have := m.isLt; have := c.toNat_lt
  unfold addSum; omega

theorem addResult_toNat (a m : Byte) (c : Bool) : (addResult a m c).toNat = addSum a m c % 256 := rfl

/-- The 9-bit identity of the sum: result and carry out. -/
theorem addResult_add_carry (a m : Byte) (c : Bool) :
    (addResult a m c).toNat + 256 * (addCarry a m c).toNat = a.toNat + m.toNat + c.toNat := by
  have := addSum_lt a m c
  rw [addResult_toNat, addCarry]
  by_cases h : 255 < addSum a m c <;> simp [h] <;> unfold addSum at * <;> omega

/-- The overflow formula as bit 7 of its three bytes. -/
theorem addOverflow_eq_msb (a m r : Byte) : addOverflow a m r = decide (a.msb = m.msb ∧ a.msb ≠ r.msb) := by
  have h80 : ∀ x : Byte, ((x &&& 0x80) != 0) = x.msb := by decide
  rw [addOverflow, h80, BitVec.msb_and, BitVec.msb_xor, BitVec.msb_xor]
  cases a.msb <;> cases m.msb <;> cases r.msb <;> rfl

/-- V of an addition: the sum of the two's-complement numbers and the carry is out of range (R122). -/
theorem addOverflow_iff (a m : Byte) (c : Bool) : addOverflow a m (addResult a m c) = true ↔
    a.toInt + m.toInt + c.toNat < -128 ∨ 127 < a.toInt + m.toInt + c.toNat := by
  have := a.isLt; have := m.isLt; have := c.toNat_lt
  have hr := addResult_toNat a m c
  unfold addSum at hr
  simp only [addOverflow_eq_msb, BitVec.msb_eq_decide, BitVec.toInt, hr, decide_eq_true_eq, decide_eq_decide, ne_eq]
  omega

theorem borrowOperand_toNat (m : Byte) : (borrowOperand m).toNat = 255 - m.toNat := by
  revert m; decide

theorem borrowOperand_toInt (m : Byte) : (borrowOperand m).toInt = -1 - m.toInt := by
  revert m; decide

/-! A shift or rotate: the result and the carry out (R140 to R143). -/

theorem shiftAsl_toNat (v : Byte) (c : Bool) :
    (shiftAsl v c).1.toNat = v.toNat * 2 % 256 ∧ (shiftAsl v c).2 = decide (128 ≤ v.toNat) := by
  revert v c; decide

theorem shiftLsr_toNat (v : Byte) (c : Bool) :
    (shiftLsr v c).1.toNat = v.toNat / 2 ∧ (shiftLsr v c).2 = decide (v.toNat % 2 = 1) := by
  revert v c; decide

theorem shiftRol_toNat (v : Byte) (c : Bool) :
    (shiftRol v c).1.toNat = v.toNat * 2 % 256 + c.toNat ∧ (shiftRol v c).2 = decide (128 ≤ v.toNat) := by
  revert v c; decide

theorem shiftRor_toNat (v : Byte) (c : Bool) :
    (shiftRor v c).1.toNat = v.toNat / 2 + 128 * c.toNat ∧ (shiftRor v c).2 = decide (v.toNat % 2 = 1) := by
  revert v c; decide

end Sys2Proof.Machine
end

