-- ==== Sys2Proof/Laws/Memory.lean ====
section
/-! SUPPORT. The laws of memory: a read after a write to the same cell, to another cell, and the canonical form. -/

namespace Sys2Proof.Machine

theorem Memory.lookup_erase (m : Memory) (a b : Nat) :
    (m.erase a).lookup b = if a = b then Config.unlistedCell else m.lookup b := by
  induction m with
  | nil => simp [Memory.erase, Memory.lookup]
  | cons p rest ih =>
    obtain ⟨k, v⟩ := p
    by_cases hk : k = a <;> by_cases hb : k = b <;> simp_all [Memory.erase, Memory.lookup]
    · intro h; exact absurd h.symm ‹_›

theorem Memory.lookup_insert (m : Memory) (a b : Nat) (v : Byte) (h : m.lookup a = Config.unlistedCell ∨ a ≠ b)
    (hk : ∀ p ∈ m, p.1 ≠ a) : (Memory.insert m a v).lookup b = if a = b then v else m.lookup b := by
  induction m with
  | nil => simp [Memory.insert, Memory.lookup]
  | cons p rest ih =>
    obtain ⟨k, u⟩ := p
    have hka : k ≠ a := hk (k, u) (by simp)
    have ih' := ih (by
      rcases h with h | h
      · left; simpa [Memory.lookup, hka] using h
      · exact .inr h) (fun p hp => hk p (by simp [hp]))
    unfold Memory.insert
    split
    · simp [Memory.lookup]
    · simp only [Memory.lookup, ih']
      by_cases hab : a = b
      · subst hab; simp [hka]
      · simp [hab]

theorem Memory.erase_keys (m : Memory) (a : Nat) : ∀ p ∈ m.erase a, p.1 ≠ a := by
  induction m with
  | nil => simp [Memory.erase]
  | cons p rest ih =>
    obtain ⟨k, v⟩ := p
    unfold Memory.erase
    split
    · exact ih
    · intro q hq
      rcases List.mem_cons.mp hq with rfl | hq
      · assumption
      · exact ih q hq

/-- `store` is a function update, on every list. -/
theorem Memory.lookup_store (m : Memory) (a b : Nat) (v : Byte) :
    (m.store a v).lookup b = if a = b then v else m.lookup b := by
  unfold Memory.store
  split
  · rename_i hv; rw [Memory.lookup_erase, hv]
  · rw [Memory.lookup_insert _ _ _ _ (by simp [Memory.lookup_erase]) (Memory.erase_keys m a), Memory.lookup_erase]
    split <;> rfl

theorem Memory.read_write (m : Memory) (a b : Word) (v : Byte) :
    (m.write a v).read b = if a = b then v else m.read b := by
  simp [Memory.read, Memory.write, Memory.lookup_store, BitVec.toNat_inj]

/-- A write followed by a read of the same address returns the written byte (R51). -/
@[simp] theorem Memory.read_write_same (m : Memory) (a : Word) (v : Byte) : (m.write a v).read a = v := by
  simp [Memory.read_write]

/-- A write changes no other cell (R51). -/
theorem Memory.read_write_other (m : Memory) {a b : Word} (v : Byte) (h : a ≠ b) : (m.write a v).read b = m.read b := by
  simp [Memory.read_write, h]

theorem Memory.wfFrom_mono {lo lo' : Nat} (m : Memory) (h : lo' ≤ lo) (hw : Memory.wfFrom lo m = true) :
    Memory.wfFrom lo' m = true := by
  cases m with
  | nil => rfl
  | cons p rest =>
    obtain ⟨k, v⟩ := p
    simp only [Memory.wfFrom, Bool.and_eq_true, decide_eq_true_eq] at hw ⊢
    exact ⟨⟨⟨by omega, hw.1.1.2⟩, hw.1.2⟩, hw.2⟩

theorem Memory.wfFrom_erase (m : Memory) (lo a : Nat) (hw : Memory.wfFrom lo m = true) :
    Memory.wfFrom lo (m.erase a) = true := by
  induction m generalizing lo with
  | nil => rfl
  | cons p rest ih =>
    obtain ⟨k, v⟩ := p
    simp only [Memory.wfFrom, Bool.and_eq_true, decide_eq_true_eq] at hw
    have ihr := ih (k + 1) hw.2
    unfold Memory.erase
    split
    · exact Memory.wfFrom_mono _ (by omega) ihr
    · simp only [Memory.wfFrom, Bool.and_eq_true, decide_eq_true_eq]
      exact ⟨hw.1, ihr⟩

theorem Memory.wfFrom_insert (m : Memory) (lo a : Nat) (v : Byte) (hw : Memory.wfFrom lo m = true)
    (hk : ∀ p ∈ m, p.1 ≠ a) (hlo : lo ≤ a) (ha : a < Config.memorySize) (hv : v ≠ Config.unlistedCell) :
    Memory.wfFrom lo (Memory.insert m a v) = true := by
  induction m generalizing lo with
  | nil => simp [Memory.insert, Memory.wfFrom, hlo, ha, hv]
  | cons p rest ih =>
    obtain ⟨k, u⟩ := p
    simp only [Memory.wfFrom, Bool.and_eq_true, decide_eq_true_eq] at hw
    have hka : k ≠ a := hk (k, u) (by simp)
    unfold Memory.insert
    split
    · rename_i hlt
      simp only [Memory.wfFrom, Bool.and_eq_true, decide_eq_true_eq, bne_iff_ne]
      exact ⟨⟨⟨hlo, ha⟩, hv⟩, ⟨⟨by omega, hw.1.1.2⟩, by simpa using hw.1.2⟩, hw.2⟩
    · simp only [Memory.wfFrom, Bool.and_eq_true, decide_eq_true_eq]
      exact ⟨hw.1, ih (k + 1) hw.2 (fun p hp => hk p (by simp [hp])) (by omega)⟩

/-- Every write keeps the canonical form. -/
theorem Memory.write_wf (m : Memory) (a : Word) (v : Byte) (hw : m.wf = true) : (m.write a v).wf = true := by
  unfold Memory.write Memory.store Memory.wf
  split
  · exact Memory.wfFrom_erase m 0 _ hw
  · exact Memory.wfFrom_insert _ 0 _ v (Memory.wfFrom_erase m 0 _ hw) (Memory.erase_keys m _) (by omega)
      (by simpa [Config.memorySize] using a.isLt) ‹_›

/-- Every image written keeps the canonical form. -/
theorem Memory.writeImage_wf (m : Memory) (a : Word) (bytes : List Byte) (hw : m.wf = true) :
    (m.writeImage a bytes).wf = true := by
  induction bytes generalizing m a with
  | nil => exact hw
  | cons v rest ih => exact ih _ _ (Memory.write_wf m a v hw)

/-- Below its first possible address a canonical memory lists nothing. -/
theorem Memory.lookup_below (m : Memory) {lo a : Nat} (hw : Memory.wfFrom lo m = true) (h : a < lo) :
    m.lookup a = Config.unlistedCell := by
  induction m generalizing lo with
  | nil => rfl
  | cons p rest ih =>
    obtain ⟨k, v⟩ := p
    simp only [Memory.wfFrom, Bool.and_eq_true, decide_eq_true_eq] at hw
    rw [Memory.lookup, if_neg (by omega)]
    exact ih hw.2 (by omega)

theorem Memory.eq_of_lookup_eq (m m' : Memory) (lo : Nat) (hw : Memory.wfFrom lo m = true)
    (hw' : Memory.wfFrom lo m' = true) (h : ∀ a, m.lookup a = m'.lookup a) : m = m' := by
  induction m generalizing lo m' with
  | nil =>
    cases m' with
    | nil => rfl
    | cons p rest =>
      have hp := h p.1
      simp only [Memory.wfFrom, Bool.and_eq_true, bne_iff_ne] at hw'
      simp only [Memory.lookup, if_pos] at hp
      exact absurd hp.symm hw'.1.2
  | cons p rest ih =>
    obtain ⟨k, v⟩ := p
    simp only [Memory.wfFrom, Bool.and_eq_true, decide_eq_true_eq, bne_iff_ne] at hw
    have hk := h k
    cases m' with
    | nil =>
      simp only [Memory.lookup, if_pos] at hk
      exact absurd hk hw.1.2
    | cons p' rest' =>
      obtain ⟨k', v'⟩ := p'
      simp only [Memory.wfFrom, Bool.and_eq_true, decide_eq_true_eq, bne_iff_ne] at hw'
      have hk' := h k'
      have hkk : k = k' := by
        rcases Nat.lt_trichotomy k k' with hlt | heq | hgt
        · simp only [Memory.lookup, if_pos, if_neg (Nat.ne_of_gt hlt)] at hk
          rw [Memory.lookup_below rest' hw'.2 (by omega)] at hk
          exact absurd hk hw.1.2
        · exact heq
        · simp only [Memory.lookup, if_pos, if_neg (Nat.ne_of_gt hgt)] at hk'
          rw [Memory.lookup_below rest hw.2 (by omega)] at hk'
          exact absurd hk'.symm hw'.1.2
      subst hkk
      simp only [Memory.lookup, if_pos] at hk
      subst hk
      rw [ih rest' (k + 1) hw.2 hw'.2]
      intro a
      by_cases ha : a < k + 1
      · rw [Memory.lookup_below rest hw.2 ha, Memory.lookup_below rest' hw'.2 ha]
      · have := h a
        rwa [Memory.lookup, Memory.lookup, if_neg (by omega), if_neg (by omega)] at this

theorem Memory.lookup_above (m : Memory) {lo a : Nat} (hw : Memory.wfFrom lo m = true) (h : Config.memorySize ≤ a) :
    m.lookup a = Config.unlistedCell := by
  induction m generalizing lo with
  | nil => rfl
  | cons p rest ih =>
    obtain ⟨k, v⟩ := p
    simp only [Memory.wfFrom, Bool.and_eq_true, decide_eq_true_eq] at hw
    rw [Memory.lookup, if_neg (by omega)]
    exact ih hw.2

/-- Two canonical memories that read alike are the same list. -/
theorem Memory.eq_of_read_eq {m m' : Memory} (hw : m.wf = true) (hw' : m'.wf = true)
    (h : ∀ addr : Word, m.read addr = m'.read addr) : m = m' := by
  refine Memory.eq_of_lookup_eq m m' 0 hw hw' fun a => ?_
  by_cases ha : a < Config.memorySize
  · have := h (BitVec.ofNat 16 a)
    simpa only [Memory.read, BitVec.toNat_ofNat, Nat.mod_eq_of_lt (show a < 2 ^ 16 from ha)] using this
  · rw [Memory.lookup_above m hw (by omega), Memory.lookup_above m' hw' (by omega)]

theorem Memory.supplyBelow_wf (mem0 : Word → Byte) (n : Nat) : (Memory.supplyBelow mem0 n).wf = true := by
  induction n with
  | zero => rfl
  | succ n ih => exact Memory.write_wf _ _ _ ih

/-- A supplied memory is in canonical form. -/
theorem Memory.supplied_wf (mem0 : Word → Byte) : (Memory.supplied mem0).wf = true := Memory.supplyBelow_wf mem0 _

theorem Memory.read_supplyBelow (mem0 : Word → Byte) (n : Nat) (hn : n ≤ Config.memorySize) (addr : Word)
    (h : addr.toNat < n) : (Memory.supplyBelow mem0 n).read addr = mem0 addr := by
  induction n with
  | zero => omega
  | succ n ih =>
    rw [Memory.supplyBelow, Memory.read_write]
    split
    · rename_i he; rw [he]
    · rename_i he
      refine ih (by omega) (Nat.lt_of_le_of_ne (by omega) fun hc => he ?_)
      rw [← hc, BitVec.ofNat_toNat, BitVec.setWidth_eq]

/-- Every cell of a supplied memory reads as `mem0` says (R33). -/
@[simp] theorem Memory.read_supplied (mem0 : Word → Byte) (addr : Word) : (Memory.supplied mem0).read addr = mem0 addr :=
  Memory.read_supplyBelow mem0 _ (Nat.le_refl _) addr addr.isLt

/-- A canonical memory is the supplied memory of its own contents: `mem0` ranges over every memory. -/
theorem Memory.supplied_read {m : Memory} (hw : m.wf = true) : Memory.supplied m.read = m :=
  Memory.eq_of_read_eq (Memory.supplied_wf _) hw fun addr => Memory.read_supplied _ addr

/-- A cell that no byte of an image lands on reads as before. -/
theorem Memory.read_writeImage_other (m : Memory) (base : Word) (bytes : List Byte) (addr : Word)
    (h : ∀ k < bytes.length, base + BitVec.ofNat 16 k ≠ addr) : (m.writeImage base bytes).read addr = m.read addr := by
  induction bytes generalizing m base with
  | nil => rfl
  | cons v rest ih =>
    have h0 : base ≠ addr := by simpa using h 0 (by simp)
    rw [Memory.writeImage, ih, Memory.read_write_other m v h0]
    intro k hk
    have := h (k + 1) (by simpa using hk)
    rwa [BitVec.ofNat_add, BitVec.add_comm (BitVec.ofNat 16 k), ← BitVec.add_assoc] at this

end Sys2Proof.Machine
end

