-- ==== Sys2Proof/Laws/State.lean ====
section
/-! SUPPORT. One lemma per field per named update of State, each true by unfolding, so that no later proof unfolds an update. -/

namespace Sys2Proof.Machine

@[simp] theorem State.resetOver_a (mem0 : Word → Byte) : (State.resetOver mem0).a = 0x00 := rfl
@[simp] theorem State.resetOver_x (mem0 : Word → Byte) : (State.resetOver mem0).x = 0x00 := rfl
@[simp] theorem State.resetOver_y (mem0 : Word → Byte) : (State.resetOver mem0).y = 0x00 := rfl
@[simp] theorem State.resetOver_sp (mem0 : Word → Byte) : (State.resetOver mem0).sp = 0xFD := rfl
@[simp] theorem State.resetOver_flags (mem0 : Word → Byte) : (State.resetOver mem0).flags = Flags.reset := rfl
@[simp] theorem State.resetOver_engine (mem0 : Word → Byte) : (State.resetOver mem0).engine = .ready := rfl
@[simp] theorem State.resetOver_cycles (mem0 : Word → Byte) : (State.resetOver mem0).cycles = 0 := rfl
@[simp] theorem State.resetOver_stop (mem0 : Word → Byte) : (State.resetOver mem0).stop = false := rfl
@[simp] theorem State.resetOver_mem (mem0 : Word → Byte) : (State.resetOver mem0).mem = Memory.supplied mem0 := rfl
@[simp] theorem State.resetOver_pc (mem0 : Word → Byte) :
    (State.resetOver mem0).pc = wordOfBytes (mem0 0xFFFC) (mem0 0xFFFD) := by
  show wordOfBytes ((Memory.supplied mem0).read 0xFFFC) ((Memory.supplied mem0).read 0xFFFD) = _
  rw [Memory.read_supplied, Memory.read_supplied]

/-- `State.reset` is the reset over one `mem0`, and over no other is anything assumed of it (log 2). -/
theorem State.reset_eq_resetOver : State.reset = State.resetOver fun _ => Config.unlistedCell := by
  show State.create [] = State.create (Memory.supplied (Memory.read []))
  rw [Memory.supplied_read rfl]

@[simp] theorem State.write_a (s : State) (addr : Word) (v : Byte) : (s.write addr v).a = s.a := rfl
@[simp] theorem State.write_x (s : State) (addr : Word) (v : Byte) : (s.write addr v).x = s.x := rfl
@[simp] theorem State.write_y (s : State) (addr : Word) (v : Byte) : (s.write addr v).y = s.y := rfl
@[simp] theorem State.write_sp (s : State) (addr : Word) (v : Byte) : (s.write addr v).sp = s.sp := rfl
@[simp] theorem State.write_pc (s : State) (addr : Word) (v : Byte) : (s.write addr v).pc = s.pc := rfl
@[simp] theorem State.write_flags (s : State) (addr : Word) (v : Byte) : (s.write addr v).flags = s.flags := rfl
@[simp] theorem State.write_mem (s : State) (addr : Word) (v : Byte) : (s.write addr v).mem = s.mem.write addr v := rfl
@[simp] theorem State.write_engine (s : State) (addr : Word) (v : Byte) : (s.write addr v).engine = s.engine := rfl
@[simp] theorem State.write_cycles (s : State) (addr : Word) (v : Byte) : (s.write addr v).cycles = s.cycles := rfl
@[simp] theorem State.write_stop (s : State) (addr : Word) (v : Byte) : (s.write addr v).stop = s.stop := rfl

@[simp] theorem State.advance_a (s : State) (length n : Nat) : (s.advance length n).a = s.a := rfl
@[simp] theorem State.advance_x (s : State) (length n : Nat) : (s.advance length n).x = s.x := rfl
@[simp] theorem State.advance_y (s : State) (length n : Nat) : (s.advance length n).y = s.y := rfl
@[simp] theorem State.advance_sp (s : State) (length n : Nat) : (s.advance length n).sp = s.sp := rfl
@[simp] theorem State.advance_pc (s : State) (length n : Nat) : (s.advance length n).pc = s.pc + BitVec.ofNat 16 length := rfl
@[simp] theorem State.advance_flags (s : State) (length n : Nat) : (s.advance length n).flags = s.flags := rfl
@[simp] theorem State.advance_mem (s : State) (length n : Nat) : (s.advance length n).mem = s.mem := rfl
@[simp] theorem State.advance_engine (s : State) (length n : Nat) : (s.advance length n).engine = s.engine := rfl
@[simp] theorem State.advance_cycles (s : State) (length n : Nat) : (s.advance length n).cycles = s.cycles + n := rfl
@[simp] theorem State.advance_stop (s : State) (length n : Nat) : (s.advance length n).stop = s.stop := rfl

@[simp] theorem State.push_a (s : State) (v : Byte) : (s.push v).a = s.a := rfl
@[simp] theorem State.push_x (s : State) (v : Byte) : (s.push v).x = s.x := rfl
@[simp] theorem State.push_y (s : State) (v : Byte) : (s.push v).y = s.y := rfl
@[simp] theorem State.push_sp (s : State) (v : Byte) : (s.push v).sp = s.sp - 1 := rfl
@[simp] theorem State.push_pc (s : State) (v : Byte) : (s.push v).pc = s.pc := rfl
@[simp] theorem State.push_flags (s : State) (v : Byte) : (s.push v).flags = s.flags := rfl
@[simp] theorem State.push_mem (s : State) (v : Byte) : (s.push v).mem = s.mem.write (stackAddr s.sp) v := rfl
@[simp] theorem State.push_engine (s : State) (v : Byte) : (s.push v).engine = s.engine := rfl
@[simp] theorem State.push_cycles (s : State) (v : Byte) : (s.push v).cycles = s.cycles := rfl
@[simp] theorem State.push_stop (s : State) (v : Byte) : (s.push v).stop = s.stop := rfl

@[simp] theorem State.popped_a (s : State) : (s.popped).a = s.a := rfl
@[simp] theorem State.popped_x (s : State) : (s.popped).x = s.x := rfl
@[simp] theorem State.popped_y (s : State) : (s.popped).y = s.y := rfl
@[simp] theorem State.popped_sp (s : State) : (s.popped).sp = s.sp + 1 := rfl
@[simp] theorem State.popped_pc (s : State) : (s.popped).pc = s.pc := rfl
@[simp] theorem State.popped_flags (s : State) : (s.popped).flags = s.flags := rfl
@[simp] theorem State.popped_mem (s : State) : (s.popped).mem = s.mem := rfl
@[simp] theorem State.popped_engine (s : State) : (s.popped).engine = s.engine := rfl
@[simp] theorem State.popped_cycles (s : State) : (s.popped).cycles = s.cycles := rfl
@[simp] theorem State.popped_stop (s : State) : (s.popped).stop = s.stop := rfl

@[simp] theorem State.pushWord_a (s : State) (w : Word) : (s.pushWord w).a = s.a := by simp only [State.pushWord, State.push_a]
@[simp] theorem State.pushWord_x (s : State) (w : Word) : (s.pushWord w).x = s.x := by simp only [State.pushWord, State.push_x]
@[simp] theorem State.pushWord_y (s : State) (w : Word) : (s.pushWord w).y = s.y := by simp only [State.pushWord, State.push_y]
@[simp] theorem State.pushWord_sp (s : State) (w : Word) : (s.pushWord w).sp = s.sp - 1 - 1 := by simp only [State.pushWord, State.push_sp]
@[simp] theorem State.pushWord_pc (s : State) (w : Word) : (s.pushWord w).pc = s.pc := by simp only [State.pushWord, State.push_pc]
@[simp] theorem State.pushWord_flags (s : State) (w : Word) : (s.pushWord w).flags = s.flags := by simp only [State.pushWord, State.push_flags]
@[simp] theorem State.pushWord_mem (s : State) (w : Word) : (s.pushWord w).mem = (s.mem.write (stackAddr s.sp) (hiByte w)).write (stackAddr (s.sp - 1)) (loByte w) := by simp only [State.pushWord, State.push_mem, State.push_sp]
@[simp] theorem State.pushWord_engine (s : State) (w : Word) : (s.pushWord w).engine = s.engine := by simp only [State.pushWord, State.push_engine]
@[simp] theorem State.pushWord_cycles (s : State) (w : Word) : (s.pushWord w).cycles = s.cycles := by simp only [State.pushWord, State.push_cycles]
@[simp] theorem State.pushWord_stop (s : State) (w : Word) : (s.pushWord w).stop = s.stop := by simp only [State.pushWord, State.push_stop]

@[simp] theorem State.raiseIllegal_a (s : State) (op : Byte) : (s.raiseIllegal op).a = s.a := rfl
@[simp] theorem State.raiseIllegal_x (s : State) (op : Byte) : (s.raiseIllegal op).x = s.x := rfl
@[simp] theorem State.raiseIllegal_y (s : State) (op : Byte) : (s.raiseIllegal op).y = s.y := rfl
@[simp] theorem State.raiseIllegal_sp (s : State) (op : Byte) : (s.raiseIllegal op).sp = s.sp := rfl
@[simp] theorem State.raiseIllegal_pc (s : State) (op : Byte) : (s.raiseIllegal op).pc = s.pc := rfl
@[simp] theorem State.raiseIllegal_flags (s : State) (op : Byte) : (s.raiseIllegal op).flags = s.flags := rfl
@[simp] theorem State.raiseIllegal_mem (s : State) (op : Byte) : (s.raiseIllegal op).mem = s.mem := rfl
@[simp] theorem State.raiseIllegal_engine (s : State) (op : Byte) : (s.raiseIllegal op).engine = .faulted (.illegalOpcode op s.pc) := rfl
@[simp] theorem State.raiseIllegal_cycles (s : State) (op : Byte) : (s.raiseIllegal op).cycles = s.cycles := rfl
@[simp] theorem State.raiseIllegal_stop (s : State) (op : Byte) : (s.raiseIllegal op).stop = s.stop := rfl

@[simp] theorem State.loadA_a (s : State) (v : Byte) : (s.loadA v).a = v := rfl
@[simp] theorem State.loadA_x (s : State) (v : Byte) : (s.loadA v).x = s.x := rfl
@[simp] theorem State.loadA_y (s : State) (v : Byte) : (s.loadA v).y = s.y := rfl
@[simp] theorem State.loadA_sp (s : State) (v : Byte) : (s.loadA v).sp = s.sp := rfl
@[simp] theorem State.loadA_pc (s : State) (v : Byte) : (s.loadA v).pc = s.pc := rfl
@[simp] theorem State.loadA_flags (s : State) (v : Byte) : (s.loadA v).flags = s.flags.setZN v := rfl
@[simp] theorem State.loadA_mem (s : State) (v : Byte) : (s.loadA v).mem = s.mem := rfl
@[simp] theorem State.loadA_engine (s : State) (v : Byte) : (s.loadA v).engine = s.engine := rfl
@[simp] theorem State.loadA_cycles (s : State) (v : Byte) : (s.loadA v).cycles = s.cycles := rfl
@[simp] theorem State.loadA_stop (s : State) (v : Byte) : (s.loadA v).stop = s.stop := rfl

@[simp] theorem State.loadX_a (s : State) (v : Byte) : (s.loadX v).a = s.a := rfl
@[simp] theorem State.loadX_x (s : State) (v : Byte) : (s.loadX v).x = v := rfl
@[simp] theorem State.loadX_y (s : State) (v : Byte) : (s.loadX v).y = s.y := rfl
@[simp] theorem State.loadX_sp (s : State) (v : Byte) : (s.loadX v).sp = s.sp := rfl
@[simp] theorem State.loadX_pc (s : State) (v : Byte) : (s.loadX v).pc = s.pc := rfl
@[simp] theorem State.loadX_flags (s : State) (v : Byte) : (s.loadX v).flags = s.flags.setZN v := rfl
@[simp] theorem State.loadX_mem (s : State) (v : Byte) : (s.loadX v).mem = s.mem := rfl
@[simp] theorem State.loadX_engine (s : State) (v : Byte) : (s.loadX v).engine = s.engine := rfl
@[simp] theorem State.loadX_cycles (s : State) (v : Byte) : (s.loadX v).cycles = s.cycles := rfl
@[simp] theorem State.loadX_stop (s : State) (v : Byte) : (s.loadX v).stop = s.stop := rfl

@[simp] theorem State.loadY_a (s : State) (v : Byte) : (s.loadY v).a = s.a := rfl
@[simp] theorem State.loadY_x (s : State) (v : Byte) : (s.loadY v).x = s.x := rfl
@[simp] theorem State.loadY_y (s : State) (v : Byte) : (s.loadY v).y = v := rfl
@[simp] theorem State.loadY_sp (s : State) (v : Byte) : (s.loadY v).sp = s.sp := rfl
@[simp] theorem State.loadY_pc (s : State) (v : Byte) : (s.loadY v).pc = s.pc := rfl
@[simp] theorem State.loadY_flags (s : State) (v : Byte) : (s.loadY v).flags = s.flags.setZN v := rfl
@[simp] theorem State.loadY_mem (s : State) (v : Byte) : (s.loadY v).mem = s.mem := rfl
@[simp] theorem State.loadY_engine (s : State) (v : Byte) : (s.loadY v).engine = s.engine := rfl
@[simp] theorem State.loadY_cycles (s : State) (v : Byte) : (s.loadY v).cycles = s.cycles := rfl
@[simp] theorem State.loadY_stop (s : State) (v : Byte) : (s.loadY v).stop = s.stop := rfl

@[simp] theorem State.storeCell_a (s : State) (addr : Word) (v : Byte) : (s.storeCell addr v).a = s.a := rfl
@[simp] theorem State.storeCell_x (s : State) (addr : Word) (v : Byte) : (s.storeCell addr v).x = s.x := rfl
@[simp] theorem State.storeCell_y (s : State) (addr : Word) (v : Byte) : (s.storeCell addr v).y = s.y := rfl
@[simp] theorem State.storeCell_sp (s : State) (addr : Word) (v : Byte) : (s.storeCell addr v).sp = s.sp := rfl
@[simp] theorem State.storeCell_pc (s : State) (addr : Word) (v : Byte) : (s.storeCell addr v).pc = s.pc := rfl
@[simp] theorem State.storeCell_flags (s : State) (addr : Word) (v : Byte) : (s.storeCell addr v).flags = s.flags.setZN v := rfl
@[simp] theorem State.storeCell_mem (s : State) (addr : Word) (v : Byte) : (s.storeCell addr v).mem = s.mem.write addr v := rfl
@[simp] theorem State.storeCell_engine (s : State) (addr : Word) (v : Byte) : (s.storeCell addr v).engine = s.engine := rfl
@[simp] theorem State.storeCell_cycles (s : State) (addr : Word) (v : Byte) : (s.storeCell addr v).cycles = s.cycles := rfl
@[simp] theorem State.storeCell_stop (s : State) (addr : Word) (v : Byte) : (s.storeCell addr v).stop = s.stop := rfl

@[simp] theorem State.compare_a (s : State) (r m : Byte) : (s.compare r m).a = s.a := rfl
@[simp] theorem State.compare_x (s : State) (r m : Byte) : (s.compare r m).x = s.x := rfl
@[simp] theorem State.compare_y (s : State) (r m : Byte) : (s.compare r m).y = s.y := rfl
@[simp] theorem State.compare_sp (s : State) (r m : Byte) : (s.compare r m).sp = s.sp := rfl
@[simp] theorem State.compare_pc (s : State) (r m : Byte) : (s.compare r m).pc = s.pc := rfl
@[simp] theorem State.compare_flags (s : State) (r m : Byte) : (s.compare r m).flags = s.flags.afterCompare r m := rfl
@[simp] theorem State.compare_mem (s : State) (r m : Byte) : (s.compare r m).mem = s.mem := rfl
@[simp] theorem State.compare_engine (s : State) (r m : Byte) : (s.compare r m).engine = s.engine := rfl
@[simp] theorem State.compare_cycles (s : State) (r m : Byte) : (s.compare r m).cycles = s.cycles := rfl
@[simp] theorem State.compare_stop (s : State) (r m : Byte) : (s.compare r m).stop = s.stop := rfl

@[simp] theorem State.addToA_a (s : State) (m : Byte) : (s.addToA m).a = addResult s.a m s.flags.c := rfl
@[simp] theorem State.addToA_x (s : State) (m : Byte) : (s.addToA m).x = s.x := rfl
@[simp] theorem State.addToA_y (s : State) (m : Byte) : (s.addToA m).y = s.y := rfl
@[simp] theorem State.addToA_sp (s : State) (m : Byte) : (s.addToA m).sp = s.sp := rfl
@[simp] theorem State.addToA_pc (s : State) (m : Byte) : (s.addToA m).pc = s.pc := rfl
@[simp] theorem State.addToA_flags (s : State) (m : Byte) : (s.addToA m).flags = s.flags.afterAdd s.a m := rfl
@[simp] theorem State.addToA_mem (s : State) (m : Byte) : (s.addToA m).mem = s.mem := rfl
@[simp] theorem State.addToA_engine (s : State) (m : Byte) : (s.addToA m).engine = s.engine := rfl
@[simp] theorem State.addToA_cycles (s : State) (m : Byte) : (s.addToA m).cycles = s.cycles := rfl
@[simp] theorem State.addToA_stop (s : State) (m : Byte) : (s.addToA m).stop = s.stop := rfl

@[simp] theorem State.shiftA_a (s : State) (f : Shift) : (s.shiftA f).a = (f s.a s.flags.c).1 := rfl
@[simp] theorem State.shiftA_x (s : State) (f : Shift) : (s.shiftA f).x = s.x := rfl
@[simp] theorem State.shiftA_y (s : State) (f : Shift) : (s.shiftA f).y = s.y := rfl
@[simp] theorem State.shiftA_sp (s : State) (f : Shift) : (s.shiftA f).sp = s.sp := rfl
@[simp] theorem State.shiftA_pc (s : State) (f : Shift) : (s.shiftA f).pc = s.pc := rfl
@[simp] theorem State.shiftA_flags (s : State) (f : Shift) : (s.shiftA f).flags = s.flags.afterShift (f s.a s.flags.c).1 (f s.a s.flags.c).2 := rfl
@[simp] theorem State.shiftA_mem (s : State) (f : Shift) : (s.shiftA f).mem = s.mem := rfl
@[simp] theorem State.shiftA_engine (s : State) (f : Shift) : (s.shiftA f).engine = s.engine := rfl
@[simp] theorem State.shiftA_cycles (s : State) (f : Shift) : (s.shiftA f).cycles = s.cycles := rfl
@[simp] theorem State.shiftA_stop (s : State) (f : Shift) : (s.shiftA f).stop = s.stop := rfl

@[simp] theorem State.shiftCell_a (s : State) (f : Shift) (addr : Word) : (s.shiftCell f addr).a = s.a := rfl
@[simp] theorem State.shiftCell_x (s : State) (f : Shift) (addr : Word) : (s.shiftCell f addr).x = s.x := rfl
@[simp] theorem State.shiftCell_y (s : State) (f : Shift) (addr : Word) : (s.shiftCell f addr).y = s.y := rfl
@[simp] theorem State.shiftCell_sp (s : State) (f : Shift) (addr : Word) : (s.shiftCell f addr).sp = s.sp := rfl
@[simp] theorem State.shiftCell_pc (s : State) (f : Shift) (addr : Word) : (s.shiftCell f addr).pc = s.pc := rfl
@[simp] theorem State.shiftCell_flags (s : State) (f : Shift) (addr : Word) : (s.shiftCell f addr).flags = s.flags.afterShift (f (s.read addr) s.flags.c).1 (f (s.read addr) s.flags.c).2 := rfl
@[simp] theorem State.shiftCell_mem (s : State) (f : Shift) (addr : Word) : (s.shiftCell f addr).mem = s.mem.write addr (f (s.read addr) s.flags.c).1 := rfl
@[simp] theorem State.shiftCell_engine (s : State) (f : Shift) (addr : Word) : (s.shiftCell f addr).engine = s.engine := rfl
@[simp] theorem State.shiftCell_cycles (s : State) (f : Shift) (addr : Word) : (s.shiftCell f addr).cycles = s.cycles := rfl
@[simp] theorem State.shiftCell_stop (s : State) (f : Shift) (addr : Word) : (s.shiftCell f addr).stop = s.stop := rfl

@[simp] theorem State.returnFromBreak_a (s : State) : (s.returnFromBreak).a = s.a := by simp only [State.returnFromBreak]
@[simp] theorem State.returnFromBreak_x (s : State) : (s.returnFromBreak).x = s.x := by simp only [State.returnFromBreak]
@[simp] theorem State.returnFromBreak_y (s : State) : (s.returnFromBreak).y = s.y := by simp only [State.returnFromBreak]
@[simp] theorem State.returnFromBreak_sp (s : State) : (s.returnFromBreak).sp = s.sp + 1 + 1 + 1 := by simp only [State.returnFromBreak, State.popped_sp]
@[simp] theorem State.returnFromBreak_pc (s : State) : (s.returnFromBreak).pc = s.popped.topWord := by simp only [State.returnFromBreak]
@[simp] theorem State.returnFromBreak_flags (s : State) : (s.returnFromBreak).flags = Flags.unpack s.top := by simp only [State.returnFromBreak]
@[simp] theorem State.returnFromBreak_mem (s : State) : (s.returnFromBreak).mem = s.mem := by simp only [State.returnFromBreak]
@[simp] theorem State.returnFromBreak_engine (s : State) : (s.returnFromBreak).engine = s.engine := by simp only [State.returnFromBreak]
@[simp] theorem State.returnFromBreak_cycles (s : State) : (s.returnFromBreak).cycles = s.cycles := by simp only [State.returnFromBreak]
@[simp] theorem State.returnFromBreak_stop (s : State) : (s.returnFromBreak).stop = s.stop := by simp only [State.returnFromBreak]

@[simp] theorem State.enterBreak_a (s : State) (pc0 : Word) : (s.enterBreak pc0).a = s.a := by simp only [State.enterBreak]
@[simp] theorem State.enterBreak_x (s : State) (pc0 : Word) : (s.enterBreak pc0).x = s.x := by simp only [State.enterBreak]
@[simp] theorem State.enterBreak_y (s : State) (pc0 : Word) : (s.enterBreak pc0).y = s.y := by simp only [State.enterBreak]
@[simp] theorem State.enterBreak_sp (s : State) (pc0 : Word) : (s.enterBreak pc0).sp = s.sp - 1 - 1 - 1 := by simp only [State.enterBreak, State.push_sp, State.pushWord_sp]
@[simp] theorem State.enterBreak_pc (s : State) (pc0 : Word) : (s.enterBreak pc0).pc = ((s.pushWord (pc0 + 2)).push (s.flags.pack true)).read16 Config.breakVector := by simp only [State.enterBreak]
@[simp] theorem State.enterBreak_flags (s : State) (pc0 : Word) : (s.enterBreak pc0).flags = { s.flags with i := true } := by simp only [State.enterBreak]
@[simp] theorem State.enterBreak_mem (s : State) (pc0 : Word) : (s.enterBreak pc0).mem = ((s.pushWord (pc0 + 2)).push (s.flags.pack true)).mem := by simp only [State.enterBreak]
@[simp] theorem State.enterBreak_engine (s : State) (pc0 : Word) : (s.enterBreak pc0).engine = s.engine := by simp only [State.enterBreak]
@[simp] theorem State.enterBreak_cycles (s : State) (pc0 : Word) : (s.enterBreak pc0).cycles = s.cycles := by simp only [State.enterBreak]
@[simp] theorem State.enterBreak_stop (s : State) (pc0 : Word) : (s.enterBreak pc0).stop = s.stop := by simp only [State.enterBreak]

@[simp] theorem Flags.setZN_n (f : Flags) (r : Byte) : (f.setZN r).n = r.msb := rfl
@[simp] theorem Flags.setZN_v (f : Flags) (r : Byte) : (f.setZN r).v = f.v := rfl
@[simp] theorem Flags.setZN_b (f : Flags) (r : Byte) : (f.setZN r).b = f.b := rfl
@[simp] theorem Flags.setZN_d (f : Flags) (r : Byte) : (f.setZN r).d = f.d := rfl
@[simp] theorem Flags.setZN_i (f : Flags) (r : Byte) : (f.setZN r).i = f.i := rfl
@[simp] theorem Flags.setZN_z (f : Flags) (r : Byte) : (f.setZN r).z = (r == 0) := rfl
@[simp] theorem Flags.setZN_c (f : Flags) (r : Byte) : (f.setZN r).c = f.c := rfl

end Sys2Proof.Machine
end

