-- ==== Sys2Proof/Laws/Word.lean ====
section
/-! SUPPORT. Arithmetic of stack pointer values and addresses: sums of small constants in one spelling. -/

namespace Sys2Proof

theorem Byte.sub_one_sub_one (b : Byte) : b - 1 - 1 = b - 2 := by revert b; decide

theorem Byte.sub_two_sub_one (b : Byte) : b - 2 - 1 = b - 3 := by revert b; decide

theorem Byte.add_one_add_one (b : Byte) : b + 1 + 1 = b + 2 := by revert b; decide

theorem Byte.add_two_add_one (b : Byte) : b + 2 + 1 = b + 3 := by revert b; decide

/-- Three stack pointer values in a row are three values. -/
theorem Byte.sub_distinct (b : Byte) : b ≠ b - 1 ∧ b ≠ b - 2 ∧ b - 1 ≠ b - 2 := by revert b; decide

/-- Three addresses in a row are three addresses, also where they wrap past 0xFFFF. -/
theorem Word.add_distinct (w : Word) : w ≠ w + 1 ∧ w ≠ w + 2 ∧ w + 1 ≠ w + 2 := by
  refine ⟨?_, ?_, ?_⟩ <;> bv_omega

end Sys2Proof
end

