-- ==== Sys2Proof/Laws/Ops.lean ====
section
/-! SUPPORT. One lemma for each shared operation that says what it can do, for the provers to cite instead of unfolding. -/

namespace Sys2Proof.Machine

theorem State.read_write (s : State) (a b : Word) (v : Byte) :
    (s.write a v).read b = if a = b then v else s.read b := Memory.read_write s.mem a b v

@[simp] theorem State.read_advance (s : State) (length n : Nat) (a : Word) : (s.advance length n).read a = s.read a := rfl

@[simp] theorem State.read_popped (s : State) (a : Word) : s.popped.read a = s.read a := rfl

/-- Equal memories read equally. -/
theorem State.read_congr {s t : State} (h : s.mem = t.mem) (a : Word) : s.read a = t.read a := by
  simp [State.read, h]

theorem zext16_toNat (b : Byte) : (zext16 b).toNat = b.toNat := by
  have := b.isLt
  simp only [zext16, BitVec.toNat_setWidth]
  omega

/-- The stack cell is `0x0100 + S`, inside the stack page (R21). -/
theorem stackAddr_toNat (sp : Byte) : (stackAddr sp).toNat = 256 + sp.toNat := by
  have := sp.isLt
  simp only [stackAddr, BitVec.toNat_add, zext16_toNat, Config.stackPage]
  simp only [BitVec.reduceToNat]
  omega

/-- Two stack pointer values designate the same cell only if they are equal. -/
@[simp] theorem stackAddr_inj {p q : Byte} : stackAddr p = stackAddr q ↔ p = q := by
  constructor
  · intro h
    have := congrArg BitVec.toNat h
    rw [stackAddr_toNat, stackAddr_toNat] at this
    exact BitVec.eq_of_toNat_eq (by omega)
  · rintro rfl; rfl

/-- A pull after a push returns the pushed byte (R56, C1). -/
@[simp] theorem State.top_push (s : State) (v : Byte) : (s.push v).top = v := by
  simp [State.top, State.read]

/-- A pull after a push restores S. -/
@[simp] theorem State.popped_push_sp (s : State) (v : Byte) : (s.push v).popped.sp = s.sp := by simp

/-- Two pulls after a pushed word return the word (R56). -/
@[simp] theorem State.topWord_pushWord (s : State) (w : Word) : (s.pushWord w).topWord = w := by
  simp [State.topWord, State.top, State.read, Memory.read_write]

/-- The vector cells lie outside the stack page: the pushes of BRK never change them. -/
theorem stackAddr_ne_of_ge (sp : Byte) {a : Word} (h : 512 ≤ a.toNat) : stackAddr sp ≠ a := by
  intro he
  have := congrArg BitVec.toNat he
  rw [stackAddr_toNat] at this
  have := sp.isLt
  omega

/-- The branch as an equation on its answer (R200). -/
theorem branch_eq (cond : Bool) (off : Byte) (s : State) : branch cond off s =
    .next { s with pc := if cond then branchTarget (s.pc + 2) off else s.pc + 2, cycles := s.cycles + (2 + cond.toNat) } :=
  rfl

/-- The branch target as an integer sum (R107). -/
theorem branchTarget_eq (pcn : Word) (off : Byte) : branchTarget pcn off = BitVec.ofInt 16 (pcn.toNat + off.toInt) := by
  rw [BitVec.ofInt_add]
  simp [branchTarget, sext16, BitVec.signExtend]

/-- The page-wrap of an Indirect pointer as numbers (R111). -/
theorem pointerHighAddr_toNat (ptr : Word) :
    (pointerHighAddr ptr).toNat = ptr.toNat / 256 * 256 + (ptr.toNat % 256 + 1) % 256 := by
  rw [pointerHighAddr, wordOfBytes_toNat, hiByte_toNat, BitVec.toNat_add, loByte_toNat]
  rfl

/-! Each class of R114: if it answers a next state, it is this one. -/

theorem withImmediate_next {op : State → Byte → State} {n : Nat} {v : Byte} {s t : State}
    (h : withImmediate op n v s = .next t) : t = op (s.advance 2 n) v := by
  injection h with h; exact h.symm

theorem withOperand_next {op : State → Byte → State} {n : Nat} {m : AddrMode} {s t : State}
    (h : withOperand op n m s = .next t) :
    t = op (s.advance m.length (n + (m.pageCrossed s).toNat)) (s.read (m.ea s)) := by
  injection h with h; exact h.symm

theorem withStore_next {v : Byte} {n : Nat} {m : AddrMode} {s t : State} (h : withStore v n m s = .next t) :
    t = (s.advance m.length n).write (m.ea s) v := by
  injection h with h; exact h.symm

theorem withCell_next {op : State → Word → State} {n : Nat} {m : AddrMode} {s t : State}
    (h : withCell op n m s = .next t) : t = op (s.advance m.length n) (m.ea s) := by
  injection h with h; exact h.symm

theorem implied_next {op : State → State} {n : Nat} {s t : State} (h : implied op n s = .next t) :
    t = op (s.advance 1 n) := by
  injection h with h; exact h.symm

/-! Every operation keeps the canonical form of memory. -/

theorem State.write_wf {s : State} (h : s.mem.wf = true) (a : Word) (v : Byte) : (s.write a v).mem.wf = true := by
  simpa only [State.write_mem] using Memory.write_wf _ _ _ h

theorem State.push_wf {s : State} (h : s.mem.wf = true) (v : Byte) : (s.push v).mem.wf = true := by
  simpa only [State.push_mem] using Memory.write_wf _ _ _ h

theorem State.pushWord_wf {s : State} (h : s.mem.wf = true) (w : Word) : (s.pushWord w).mem.wf = true :=
  State.push_wf (State.push_wf h _) _

theorem State.enterBreak_wf {s : State} (h : s.mem.wf = true) (pc0 : Word) : (s.enterBreak pc0).mem.wf = true := by
  rw [State.enterBreak_mem]
  exact State.push_wf (State.pushWord_wf h _) _

theorem State.storeCell_wf {s : State} (h : s.mem.wf = true) (a : Word) (v : Byte) : (s.storeCell a v).mem.wf = true := by
  simpa only [State.storeCell_mem] using Memory.write_wf _ _ _ h

theorem State.shiftCell_wf {s : State} (h : s.mem.wf = true) (f : Shift) (a : Word) : (s.shiftCell f a).mem.wf = true := by
  simpa only [State.shiftCell_mem] using Memory.write_wf _ _ _ h

/-! Flags. -/

/-- PLP and RTI load back what PHP pushed (R24). -/
@[simp] theorem Flags.unpack_pack (f : Flags) (b4 : Bool) : Flags.unpack (f.pack b4) = { f with b := b4 } := by
  obtain ⟨n, v, b, d, i, z, c⟩ := f
  revert n v b d i z c b4
  decide

end Sys2Proof.Machine
end

