-- ==== Sys2Proof/Laws/Step.lean ====
section
/-! SUPPORT. What a step can do, once: the engine not READY, a stop request, or the execution of the fetched instruction. -/

namespace Sys2Proof.Machine

theorem step_of_not_ready {s : State} (h : s.engine ≠ .ready) : step s = .next s := by
  unfold step
  split
  · exact absurd ‹_› h
  · rfl
  · rfl

theorem step_of_stop {s : State} (h : s.engine = .ready) (hs : s.stop = true) :
    step s = .next { s with engine := .halted } := by
  simp [step, h, hs]

theorem step_of_ready {s : State} (h : s.engine = .ready) (hs : s.stop = false) : step s = exec s.fetch s := by
  simp [step, h, hs]

/-- The inversion lemma of `step`. -/
theorem step_cases {s t : State} (h : step s = .next t) :
    (s.engine ≠ .ready ∧ t = s) ∨ (s.engine = .ready ∧ s.stop = true ∧ t = { s with engine := .halted }) ∨
      (s.engine = .ready ∧ s.stop = false ∧ exec s.fetch s = .next t) := by
  by_cases he : s.engine = .ready
  · rcases Bool.eq_false_or_eq_true s.stop with hs | hs
    · rw [step_of_stop he hs] at h
      injection h with h
      exact .inr (.inl ⟨he, hs, h.symm⟩)
    · exact .inr (.inr ⟨he, hs, (step_of_ready he hs).symm.trans h⟩)
  · rw [step_of_not_ready he] at h
    injection h with h
    exact .inl ⟨he, h.symm⟩

end Sys2Proof.Machine
end

