-- ==== Sys2Proof/Laws/HostPort.lean ====
section
/-! SUPPORT. What an act of the host can do, once, and the fields of a host write of registers. -/

namespace Sys2Proof.Machine

@[simp] theorem State.withRegisters_registers (s : State) (r : Registers) : (s.withRegisters r).registers = r := rfl
@[simp] theorem State.withRegisters_self (s : State) : s.withRegisters s.registers = s := rfl
@[simp] theorem State.withRegisters_mem (s : State) (r : Registers) : (s.withRegisters r).mem = s.mem := rfl
@[simp] theorem State.withRegisters_engine (s : State) (r : Registers) : (s.withRegisters r).engine = s.engine := rfl
@[simp] theorem State.withRegisters_cycles (s : State) (r : Registers) : (s.withRegisters r).cycles = s.cycles := rfl
@[simp] theorem State.withRegisters_stop (s : State) (r : Registers) : (s.withRegisters r).stop = s.stop := rfl

@[simp] theorem State.registers_write (s : State) (addr : Word) (v : Byte) : (s.write addr v).registers = s.registers := rfl
@[simp] theorem State.registers_stop (s : State) (b : Bool) : { s with stop := b }.registers = s.registers := rfl

/-- The inversion lemma of `load`: an accepted image fits and touches memory alone. -/
theorem load_cases {base : Word} {image : List Byte} {s t : State} (h : load base image s = .next t) :
    base.toNat + image.length ≤ Config.memorySize ∧ t = { s with mem := s.mem.writeImage base image } := by
  unfold load at h
  split at h
  · cases h
  · injection h with h
    exact ⟨by omega, h.symm⟩

/-- The inversion lemma of `hostCall`. -/
theorem hostCall_cases {call : HostCall} {s t : State} (h : hostCall call s = .next t) :
    (∃ base image, call = .load base image ∧ base.toNat + image.length ≤ Config.memorySize ∧
      t = { s with mem := s.mem.writeImage base image }) ∨
    (∃ addr v, call = .poke addr v ∧ t = s.write addr v) ∨
    (∃ r, call = .writeRegisters r ∧ t = s.withRegisters r) ∨
    (∃ level, call = .step level ∧ step { s with stop := level } = .next t) ∨
    (call = .create ∧ t = State.create s.mem) := by
  cases call with
  | load base image => exact .inl ⟨base, image, rfl, load_cases h⟩
  | poke addr v => injection h with h; exact .inr (.inl ⟨addr, v, rfl, h.symm⟩)
  | writeRegisters r => injection h with h; exact .inr (.inr (.inl ⟨r, rfl, h.symm⟩))
  | step level => exact .inr (.inr (.inr (.inl ⟨level, rfl, h⟩)))
  | create => injection h with h; exact .inr (.inr (.inr (.inr ⟨rfl, h.symm⟩)))

end Sys2Proof.Machine
end

