-- ==== Sys2Proof/Laws/PerInstr.lean ====
section
/-! SUPPORT. The family RoundTrip: decoding the encoding of an instruction gives it back, one lemma per constructor. -/

namespace Sys2Proof.Laws.RoundTrip

/-- Decoding the bytes of `i` gives `i` and leaves the bytes after it. -/
def Statement (i : Instr) : Prop := i.wf = true → ∀ rest, decode (encode i ++ rest) = .ok (i, rest)

/-- A row with no operand byte. -/
theorem of_noOperand {i : Instr} {op : Byte} (he : encode i = [op]) (hr : (registry op).build = .noOperand i) :
    Statement i := by
  intro _ rest
  simp [he, decode, hr, Build.consume]

/-- A row with an 8-bit operand. -/
theorem of_operand8 {f : Byte → Instr} {b op : Byte} (he : encode (f b) = [op, b])
    (hr : (registry op).build = .operand8 f) : Statement (f b) := by
  intro _ rest
  simp [he, decode, hr, Build.consume]

/-- A row with a 16-bit operand: its two bytes join to the operand again. -/
theorem of_operand16 {f : Word → Instr} {w : Word} {op : Byte} (he : encode (f w) = op :: wordBytes w)
    (hr : (registry op).build = .operand16 f) : Statement (f w) := by
  intro _ rest
  simp [he, decode, hr, Build.consume, wordBytes]

theorem adcImm (v : Byte) : Statement (.adcImm v) := of_operand8 (op := 0x69) (f := .adcImm) rfl rfl
theorem adcZp (a : Byte) : Statement (.adcZp a) := of_operand8 (op := 0x65) (f := .adcZp) rfl rfl
theorem adcZpX (a : Byte) : Statement (.adcZpX a) := of_operand8 (op := 0x75) (f := .adcZpX) rfl rfl
theorem adcAbs (a : Word) : Statement (.adcAbs a) := of_operand16 (op := 0x6D) (f := .adcAbs) rfl rfl
theorem adcAbsX (a : Word) : Statement (.adcAbsX a) := of_operand16 (op := 0x7D) (f := .adcAbsX) rfl rfl
theorem adcAbsY (a : Word) : Statement (.adcAbsY a) := of_operand16 (op := 0x79) (f := .adcAbsY) rfl rfl
theorem adcIndX (a : Byte) : Statement (.adcIndX a) := of_operand8 (op := 0x61) (f := .adcIndX) rfl rfl
theorem adcIndY (a : Byte) : Statement (.adcIndY a) := of_operand8 (op := 0x71) (f := .adcIndY) rfl rfl
theorem sbcImm (v : Byte) : Statement (.sbcImm v) := of_operand8 (op := 0xE9) (f := .sbcImm) rfl rfl
theorem sbcZp (a : Byte) : Statement (.sbcZp a) := of_operand8 (op := 0xE5) (f := .sbcZp) rfl rfl
theorem sbcZpX (a : Byte) : Statement (.sbcZpX a) := of_operand8 (op := 0xF5) (f := .sbcZpX) rfl rfl
theorem sbcAbs (a : Word) : Statement (.sbcAbs a) := of_operand16 (op := 0xED) (f := .sbcAbs) rfl rfl
theorem sbcAbsX (a : Word) : Statement (.sbcAbsX a) := of_operand16 (op := 0xFD) (f := .sbcAbsX) rfl rfl
theorem sbcAbsY (a : Word) : Statement (.sbcAbsY a) := of_operand16 (op := 0xF9) (f := .sbcAbsY) rfl rfl
theorem sbcIndX (a : Byte) : Statement (.sbcIndX a) := of_operand8 (op := 0xE1) (f := .sbcIndX) rfl rfl
theorem sbcIndY (a : Byte) : Statement (.sbcIndY a) := of_operand8 (op := 0xF1) (f := .sbcIndY) rfl rfl
theorem andImm (v : Byte) : Statement (.andImm v) := of_operand8 (op := 0x29) (f := .andImm) rfl rfl
theorem andZp (a : Byte) : Statement (.andZp a) := of_operand8 (op := 0x25) (f := .andZp) rfl rfl
theorem andZpX (a : Byte) : Statement (.andZpX a) := of_operand8 (op := 0x35) (f := .andZpX) rfl rfl
theorem andAbs (a : Word) : Statement (.andAbs a) := of_operand16 (op := 0x2D) (f := .andAbs) rfl rfl
theorem andAbsX (a : Word) : Statement (.andAbsX a) := of_operand16 (op := 0x3D) (f := .andAbsX) rfl rfl
theorem andAbsY (a : Word) : Statement (.andAbsY a) := of_operand16 (op := 0x39) (f := .andAbsY) rfl rfl
theorem andIndX (a : Byte) : Statement (.andIndX a) := of_operand8 (op := 0x21) (f := .andIndX) rfl rfl
theorem andIndY (a : Byte) : Statement (.andIndY a) := of_operand8 (op := 0x31) (f := .andIndY) rfl rfl
theorem oraImm (v : Byte) : Statement (.oraImm v) := of_operand8 (op := 0x09) (f := .oraImm) rfl rfl
theorem oraZp (a : Byte) : Statement (.oraZp a) := of_operand8 (op := 0x05) (f := .oraZp) rfl rfl
theorem oraZpX (a : Byte) : Statement (.oraZpX a) := of_operand8 (op := 0x15) (f := .oraZpX) rfl rfl
theorem oraAbs (a : Word) : Statement (.oraAbs a) := of_operand16 (op := 0x0D) (f := .oraAbs) rfl rfl
theorem oraAbsX (a : Word) : Statement (.oraAbsX a) := of_operand16 (op := 0x1D) (f := .oraAbsX) rfl rfl
theorem oraAbsY (a : Word) : Statement (.oraAbsY a) := of_operand16 (op := 0x19) (f := .oraAbsY) rfl rfl
theorem oraIndX (a : Byte) : Statement (.oraIndX a) := of_operand8 (op := 0x01) (f := .oraIndX) rfl rfl
theorem oraIndY (a : Byte) : Statement (.oraIndY a) := of_operand8 (op := 0x11) (f := .oraIndY) rfl rfl
theorem eorImm (v : Byte) : Statement (.eorImm v) := of_operand8 (op := 0x49) (f := .eorImm) rfl rfl
theorem eorZp (a : Byte) : Statement (.eorZp a) := of_operand8 (op := 0x45) (f := .eorZp) rfl rfl
theorem eorZpX (a : Byte) : Statement (.eorZpX a) := of_operand8 (op := 0x55) (f := .eorZpX) rfl rfl
theorem eorAbs (a : Word) : Statement (.eorAbs a) := of_operand16 (op := 0x4D) (f := .eorAbs) rfl rfl
theorem eorAbsX (a : Word) : Statement (.eorAbsX a) := of_operand16 (op := 0x5D) (f := .eorAbsX) rfl rfl
theorem eorAbsY (a : Word) : Statement (.eorAbsY a) := of_operand16 (op := 0x59) (f := .eorAbsY) rfl rfl
theorem eorIndX (a : Byte) : Statement (.eorIndX a) := of_operand8 (op := 0x41) (f := .eorIndX) rfl rfl
theorem eorIndY (a : Byte) : Statement (.eorIndY a) := of_operand8 (op := 0x51) (f := .eorIndY) rfl rfl
theorem bitZp (a : Byte) : Statement (.bitZp a) := of_operand8 (op := 0x24) (f := .bitZp) rfl rfl
theorem bitAbs (a : Word) : Statement (.bitAbs a) := of_operand16 (op := 0x2C) (f := .bitAbs) rfl rfl
theorem aslAcc : Statement .aslAcc := of_noOperand (op := 0x0A) rfl rfl
theorem aslZp (a : Byte) : Statement (.aslZp a) := of_operand8 (op := 0x06) (f := .aslZp) rfl rfl
theorem aslZpX (a : Byte) : Statement (.aslZpX a) := of_operand8 (op := 0x16) (f := .aslZpX) rfl rfl
theorem aslAbs (a : Word) : Statement (.aslAbs a) := of_operand16 (op := 0x0E) (f := .aslAbs) rfl rfl
theorem aslAbsX (a : Word) : Statement (.aslAbsX a) := of_operand16 (op := 0x1E) (f := .aslAbsX) rfl rfl
theorem lsrAcc : Statement .lsrAcc := of_noOperand (op := 0x4A) rfl rfl
theorem lsrZp (a : Byte) : Statement (.lsrZp a) := of_operand8 (op := 0x46) (f := .lsrZp) rfl rfl
theorem lsrZpX (a : Byte) : Statement (.lsrZpX a) := of_operand8 (op := 0x56) (f := .lsrZpX) rfl rfl
theorem lsrAbs (a : Word) : Statement (.lsrAbs a) := of_operand16 (op := 0x4E) (f := .lsrAbs) rfl rfl
theorem lsrAbsX (a : Word) : Statement (.lsrAbsX a) := of_operand16 (op := 0x5E) (f := .lsrAbsX) rfl rfl
theorem rolAcc : Statement .rolAcc := of_noOperand (op := 0x2A) rfl rfl
theorem rolZp (a : Byte) : Statement (.rolZp a) := of_operand8 (op := 0x26) (f := .rolZp) rfl rfl
theorem rolZpX (a : Byte) : Statement (.rolZpX a) := of_operand8 (op := 0x36) (f := .rolZpX) rfl rfl
theorem rolAbs (a : Word) : Statement (.rolAbs a) := of_operand16 (op := 0x2E) (f := .rolAbs) rfl rfl
theorem rolAbsX (a : Word) : Statement (.rolAbsX a) := of_operand16 (op := 0x3E) (f := .rolAbsX) rfl rfl
theorem rorAcc : Statement .rorAcc := of_noOperand (op := 0x6A) rfl rfl
theorem rorZp (a : Byte) : Statement (.rorZp a) := of_operand8 (op := 0x66) (f := .rorZp) rfl rfl
theorem rorZpX (a : Byte) : Statement (.rorZpX a) := of_operand8 (op := 0x76) (f := .rorZpX) rfl rfl
theorem rorAbs (a : Word) : Statement (.rorAbs a) := of_operand16 (op := 0x6E) (f := .rorAbs) rfl rfl
theorem rorAbsX (a : Word) : Statement (.rorAbsX a) := of_operand16 (op := 0x7E) (f := .rorAbsX) rfl rfl
theorem cmpImm (v : Byte) : Statement (.cmpImm v) := of_operand8 (op := 0xC9) (f := .cmpImm) rfl rfl
theorem cmpZp (a : Byte) : Statement (.cmpZp a) := of_operand8 (op := 0xC5) (f := .cmpZp) rfl rfl
theorem cmpZpX (a : Byte) : Statement (.cmpZpX a) := of_operand8 (op := 0xD5) (f := .cmpZpX) rfl rfl
theorem cmpAbs (a : Word) : Statement (.cmpAbs a) := of_operand16 (op := 0xCD) (f := .cmpAbs) rfl rfl
theorem cmpAbsX (a : Word) : Statement (.cmpAbsX a) := of_operand16 (op := 0xDD) (f := .cmpAbsX) rfl rfl
theorem cmpAbsY (a : Word) : Statement (.cmpAbsY a) := of_operand16 (op := 0xD9) (f := .cmpAbsY) rfl rfl
theorem cmpIndX (a : Byte) : Statement (.cmpIndX a) := of_operand8 (op := 0xC1) (f := .cmpIndX) rfl rfl
theorem cmpIndY (a : Byte) : Statement (.cmpIndY a) := of_operand8 (op := 0xD1) (f := .cmpIndY) rfl rfl
theorem cpxImm (v : Byte) : Statement (.cpxImm v) := of_operand8 (op := 0xE0) (f := .cpxImm) rfl rfl
theorem cpxZp (a : Byte) : Statement (.cpxZp a) := of_operand8 (op := 0xE4) (f := .cpxZp) rfl rfl
theorem cpxAbs (a : Word) : Statement (.cpxAbs a) := of_operand16 (op := 0xEC) (f := .cpxAbs) rfl rfl
theorem cpyImm (v : Byte) : Statement (.cpyImm v) := of_operand8 (op := 0xC0) (f := .cpyImm) rfl rfl
theorem cpyZp (a : Byte) : Statement (.cpyZp a) := of_operand8 (op := 0xC4) (f := .cpyZp) rfl rfl
theorem cpyAbs (a : Word) : Statement (.cpyAbs a) := of_operand16 (op := 0xCC) (f := .cpyAbs) rfl rfl
theorem incZp (a : Byte) : Statement (.incZp a) := of_operand8 (op := 0xE6) (f := .incZp) rfl rfl
theorem incZpX (a : Byte) : Statement (.incZpX a) := of_operand8 (op := 0xF6) (f := .incZpX) rfl rfl
theorem incAbs (a : Word) : Statement (.incAbs a) := of_operand16 (op := 0xEE) (f := .incAbs) rfl rfl
theorem incAbsX (a : Word) : Statement (.incAbsX a) := of_operand16 (op := 0xFE) (f := .incAbsX) rfl rfl
theorem decZp (a : Byte) : Statement (.decZp a) := of_operand8 (op := 0xC6) (f := .decZp) rfl rfl
theorem decZpX (a : Byte) : Statement (.decZpX a) := of_operand8 (op := 0xD6) (f := .decZpX) rfl rfl
theorem decAbs (a : Word) : Statement (.decAbs a) := of_operand16 (op := 0xCE) (f := .decAbs) rfl rfl
theorem decAbsX (a : Word) : Statement (.decAbsX a) := of_operand16 (op := 0xDE) (f := .decAbsX) rfl rfl
theorem inx : Statement .inx := of_noOperand (op := 0xE8) rfl rfl
theorem dex : Statement .dex := of_noOperand (op := 0xCA) rfl rfl
theorem iny : Statement .iny := of_noOperand (op := 0xC8) rfl rfl
theorem dey : Statement .dey := of_noOperand (op := 0x88) rfl rfl
theorem ldaImm (v : Byte) : Statement (.ldaImm v) := of_operand8 (op := 0xA9) (f := .ldaImm) rfl rfl
theorem ldaZp (a : Byte) : Statement (.ldaZp a) := of_operand8 (op := 0xA5) (f := .ldaZp) rfl rfl
theorem ldaZpX (a : Byte) : Statement (.ldaZpX a) := of_operand8 (op := 0xB5) (f := .ldaZpX) rfl rfl
theorem ldaAbs (a : Word) : Statement (.ldaAbs a) := of_operand16 (op := 0xAD) (f := .ldaAbs) rfl rfl
theorem ldaAbsX (a : Word) : Statement (.ldaAbsX a) := of_operand16 (op := 0xBD) (f := .ldaAbsX) rfl rfl
theorem ldaAbsY (a : Word) : Statement (.ldaAbsY a) := of_operand16 (op := 0xB9) (f := .ldaAbsY) rfl rfl
theorem ldaIndX (a : Byte) : Statement (.ldaIndX a) := of_operand8 (op := 0xA1) (f := .ldaIndX) rfl rfl
theorem ldaIndY (a : Byte) : Statement (.ldaIndY a) := of_operand8 (op := 0xB1) (f := .ldaIndY) rfl rfl
theorem ldxImm (v : Byte) : Statement (.ldxImm v) := of_operand8 (op := 0xA2) (f := .ldxImm) rfl rfl
theorem ldxZp (a : Byte) : Statement (.ldxZp a) := of_operand8 (op := 0xA6) (f := .ldxZp) rfl rfl
theorem ldxZpY (a : Byte) : Statement (.ldxZpY a) := of_operand8 (op := 0xB6) (f := .ldxZpY) rfl rfl
theorem ldxAbs (a : Word) : Statement (.ldxAbs a) := of_operand16 (op := 0xAE) (f := .ldxAbs) rfl rfl
theorem ldxAbsY (a : Word) : Statement (.ldxAbsY a) := of_operand16 (op := 0xBE) (f := .ldxAbsY) rfl rfl
theorem ldyImm (v : Byte) : Statement (.ldyImm v) := of_operand8 (op := 0xA0) (f := .ldyImm) rfl rfl
theorem ldyZp (a : Byte) : Statement (.ldyZp a) := of_operand8 (op := 0xA4) (f := .ldyZp) rfl rfl
theorem ldyZpX (a : Byte) : Statement (.ldyZpX a) := of_operand8 (op := 0xB4) (f := .ldyZpX) rfl rfl
theorem ldyAbs (a : Word) : Statement (.ldyAbs a) := of_operand16 (op := 0xAC) (f := .ldyAbs) rfl rfl
theorem ldyAbsX (a : Word) : Statement (.ldyAbsX a) := of_operand16 (op := 0xBC) (f := .ldyAbsX) rfl rfl
theorem staZp (a : Byte) : Statement (.staZp a) := of_operand8 (op := 0x85) (f := .staZp) rfl rfl
theorem staZpX (a : Byte) : Statement (.staZpX a) := of_operand8 (op := 0x95) (f := .staZpX) rfl rfl
theorem staAbs (a : Word) : Statement (.staAbs a) := of_operand16 (op := 0x8D) (f := .staAbs) rfl rfl
theorem staAbsX (a : Word) : Statement (.staAbsX a) := of_operand16 (op := 0x9D) (f := .staAbsX) rfl rfl
theorem staAbsY (a : Word) : Statement (.staAbsY a) := of_operand16 (op := 0x99) (f := .staAbsY) rfl rfl
theorem staIndX (a : Byte) : Statement (.staIndX a) := of_operand8 (op := 0x81) (f := .staIndX) rfl rfl
theorem staIndY (a : Byte) : Statement (.staIndY a) := of_operand8 (op := 0x91) (f := .staIndY) rfl rfl
theorem stxZp (a : Byte) : Statement (.stxZp a) := of_operand8 (op := 0x86) (f := .stxZp) rfl rfl
theorem stxZpY (a : Byte) : Statement (.stxZpY a) := of_operand8 (op := 0x96) (f := .stxZpY) rfl rfl
theorem stxAbs (a : Word) : Statement (.stxAbs a) := of_operand16 (op := 0x8E) (f := .stxAbs) rfl rfl
theorem styZp (a : Byte) : Statement (.styZp a) := of_operand8 (op := 0x84) (f := .styZp) rfl rfl
theorem styZpX (a : Byte) : Statement (.styZpX a) := of_operand8 (op := 0x94) (f := .styZpX) rfl rfl
theorem styAbs (a : Word) : Statement (.styAbs a) := of_operand16 (op := 0x8C) (f := .styAbs) rfl rfl
theorem tax : Statement .tax := of_noOperand (op := 0xAA) rfl rfl
theorem txa : Statement .txa := of_noOperand (op := 0x8A) rfl rfl
theorem tay : Statement .tay := of_noOperand (op := 0xA8) rfl rfl
theorem tya : Statement .tya := of_noOperand (op := 0x98) rfl rfl
theorem tsx : Statement .tsx := of_noOperand (op := 0xBA) rfl rfl
theorem txs : Statement .txs := of_noOperand (op := 0x9A) rfl rfl
theorem pha : Statement .pha := of_noOperand (op := 0x48) rfl rfl
theorem pla : Statement .pla := of_noOperand (op := 0x68) rfl rfl
theorem php : Statement .php := of_noOperand (op := 0x08) rfl rfl
theorem plp : Statement .plp := of_noOperand (op := 0x28) rfl rfl
theorem bcc (off : Byte) : Statement (.bcc off) := of_operand8 (op := 0x90) (f := .bcc) rfl rfl
theorem bcs (off : Byte) : Statement (.bcs off) := of_operand8 (op := 0xB0) (f := .bcs) rfl rfl
theorem beq (off : Byte) : Statement (.beq off) := of_operand8 (op := 0xF0) (f := .beq) rfl rfl
theorem bne (off : Byte) : Statement (.bne off) := of_operand8 (op := 0xD0) (f := .bne) rfl rfl
theorem bpl (off : Byte) : Statement (.bpl off) := of_operand8 (op := 0x10) (f := .bpl) rfl rfl
theorem bmi (off : Byte) : Statement (.bmi off) := of_operand8 (op := 0x30) (f := .bmi) rfl rfl
theorem bvc (off : Byte) : Statement (.bvc off) := of_operand8 (op := 0x50) (f := .bvc) rfl rfl
theorem bvs (off : Byte) : Statement (.bvs off) := of_operand8 (op := 0x70) (f := .bvs) rfl rfl
theorem jmpAbs (a : Word) : Statement (.jmpAbs a) := of_operand16 (op := 0x4C) (f := .jmpAbs) rfl rfl
theorem jmpInd (p : Word) : Statement (.jmpInd p) := of_operand16 (op := 0x6C) (f := .jmpInd) rfl rfl
theorem jsr (a : Word) : Statement (.jsr a) := of_operand16 (op := 0x20) (f := .jsr) rfl rfl
theorem rts : Statement .rts := of_noOperand (op := 0x60) rfl rfl
theorem brk : Statement .brk := of_noOperand (op := 0x00) rfl rfl
theorem rti : Statement .rti := of_noOperand (op := 0x40) rfl rfl
theorem clc : Statement .clc := of_noOperand (op := 0x18) rfl rfl
theorem sec : Statement .sec := of_noOperand (op := 0x38) rfl rfl
theorem cli : Statement .cli := of_noOperand (op := 0x58) rfl rfl
theorem sei : Statement .sei := of_noOperand (op := 0x78) rfl rfl
theorem clv : Statement .clv := of_noOperand (op := 0xB8) rfl rfl
theorem cld : Statement .cld := of_noOperand (op := 0xD8) rfl rfl
theorem sed : Statement .sed := of_noOperand (op := 0xF8) rfl rfl
theorem nop : Statement .nop := of_noOperand (op := 0xEA) rfl rfl

/-- Every one of the 105 bytes has the illegal descriptor. -/
theorem registry_illegal (op : Byte) : isIllegalOpcode op = true →
    encode (decodeAt op 0 0) = [op] ∧ (registry op).mode = .illegal ∧ decodeAt op 0 0 = .illegal op := by
  revert op; decide

theorem build_of_arity_zero {b : Build} (h : b.arity = 0) : b = .noOperand (b.instr 0 0) := by
  cases b <;> simp_all [Build.arity, Build.instr]

theorem illegal (op : Byte) : Statement (.illegal op) := by
  intro hw
  obtain ⟨_, hm, hd⟩ := registry_illegal op hw
  refine of_noOperand (op := op) rfl ?_ hw
  have h := build_of_arity_zero (b := (registry op).build) (by rw [registry_arity, hm]; rfl)
  rw [h]
  exact congrArg _ hd

end Sys2Proof.Laws.RoundTrip
end

