-- ==== Sys2Proof/Tests/Slice0.lean ====
section
/-! SUPPORT. Tests and witnesses. Every expected value is the spec's: R84 for the decode tests, the vector V<n> or T<n> of
95_test_vectors.md for the others. A witness shows that the hypotheses of a statement can be met. -/

namespace Sys2Proof.Tests.Slice0

open Sys2Proof Sys2Proof.Machine

/-! ### Well-formedness: the one check of WellFormed.lean. -/

/-- A byte that is a legal opcode is no illegal instruction: 0xEA is NOP, 0x00 is BRK. -/
theorem test_wf_refuses_legal_byte : (Instr.illegal 0xEA).wf = false ∧ (Instr.illegal 0x00).wf = false := by decide

/-- Every operand is allowed. -/
theorem test_wf_accepts : (Instr.illegal 0x02).wf = true ∧ (Instr.illegal 0xFF).wf = true ∧
    (Instr.ldaAbs 0xFFFF).wf = true ∧ (Instr.bne 0x80).wf = true := by decide

/-- 105 illegal byte values (R85), all different. -/
theorem test_illegal_count : illegalOpcodes.length = 105 ∧ illegalOpcodes.Nodup := by decide

/-! ### Decoding: every row of R84, its bytes written out from the rule, low operand byte first. -/

/-- Does each list of bytes decode, whole, to the instruction beside it? -/
def decodesTo (rows : List (List Byte × Instr)) : Bool :=
  rows.all fun row => (decode row.1).toOption == some (row.2, [])

theorem test_decode_add_subtract : decodesTo
    [([0x69, 0xF1], .adcImm 0xF1), ([0x65, 0xF1], .adcZp 0xF1), ([0x75, 0xF1], .adcZpX 0xF1),
     ([0x6D, 0xCD, 0xAB], .adcAbs 0xABCD), ([0x7D, 0xCD, 0xAB], .adcAbsX 0xABCD),
     ([0x79, 0xCD, 0xAB], .adcAbsY 0xABCD), ([0x61, 0xF1], .adcIndX 0xF1), ([0x71, 0xF1], .adcIndY 0xF1),
     ([0xE9, 0xF1], .sbcImm 0xF1), ([0xE5, 0xF1], .sbcZp 0xF1), ([0xF5, 0xF1], .sbcZpX 0xF1),
     ([0xED, 0xCD, 0xAB], .sbcAbs 0xABCD), ([0xFD, 0xCD, 0xAB], .sbcAbsX 0xABCD),
     ([0xF9, 0xCD, 0xAB], .sbcAbsY 0xABCD), ([0xE1, 0xF1], .sbcIndX 0xF1), ([0xF1, 0xF1], .sbcIndY 0xF1)] = true := by decide

theorem test_decode_logical : decodesTo
    [([0x29, 0xF1], .andImm 0xF1), ([0x25, 0xF1], .andZp 0xF1), ([0x35, 0xF1], .andZpX 0xF1),
     ([0x2D, 0xCD, 0xAB], .andAbs 0xABCD), ([0x3D, 0xCD, 0xAB], .andAbsX 0xABCD),
     ([0x39, 0xCD, 0xAB], .andAbsY 0xABCD), ([0x21, 0xF1], .andIndX 0xF1), ([0x31, 0xF1], .andIndY 0xF1),
     ([0x09, 0xF1], .oraImm 0xF1), ([0x05, 0xF1], .oraZp 0xF1), ([0x15, 0xF1], .oraZpX 0xF1),
     ([0x0D, 0xCD, 0xAB], .oraAbs 0xABCD), ([0x1D, 0xCD, 0xAB], .oraAbsX 0xABCD),
     ([0x19, 0xCD, 0xAB], .oraAbsY 0xABCD), ([0x01, 0xF1], .oraIndX 0xF1), ([0x11, 0xF1], .oraIndY 0xF1),
     ([0x49, 0xF1], .eorImm 0xF1), ([0x45, 0xF1], .eorZp 0xF1), ([0x55, 0xF1], .eorZpX 0xF1),
     ([0x4D, 0xCD, 0xAB], .eorAbs 0xABCD), ([0x5D, 0xCD, 0xAB], .eorAbsX 0xABCD),
     ([0x59, 0xCD, 0xAB], .eorAbsY 0xABCD), ([0x41, 0xF1], .eorIndX 0xF1), ([0x51, 0xF1], .eorIndY 0xF1),
     ([0x24, 0xF1], .bitZp 0xF1), ([0x2C, 0xCD, 0xAB], .bitAbs 0xABCD)] = true := by decide

theorem test_decode_shift_rotate : decodesTo
    [([0x0A], .aslAcc), ([0x06, 0xF1], .aslZp 0xF1), ([0x16, 0xF1], .aslZpX 0xF1),
     ([0x0E, 0xCD, 0xAB], .aslAbs 0xABCD), ([0x1E, 0xCD, 0xAB], .aslAbsX 0xABCD), ([0x4A], .lsrAcc),
     ([0x46, 0xF1], .lsrZp 0xF1), ([0x56, 0xF1], .lsrZpX 0xF1), ([0x4E, 0xCD, 0xAB], .lsrAbs 0xABCD),
     ([0x5E, 0xCD, 0xAB], .lsrAbsX 0xABCD), ([0x2A], .rolAcc), ([0x26, 0xF1], .rolZp 0xF1),
     ([0x36, 0xF1], .rolZpX 0xF1), ([0x2E, 0xCD, 0xAB], .rolAbs 0xABCD), ([0x3E, 0xCD, 0xAB], .rolAbsX 0xABCD),
     ([0x6A], .rorAcc), ([0x66, 0xF1], .rorZp 0xF1), ([0x76, 0xF1], .rorZpX 0xF1),
     ([0x6E, 0xCD, 0xAB], .rorAbs 0xABCD), ([0x7E, 0xCD, 0xAB], .rorAbsX 0xABCD)] = true := by decide

theorem test_decode_compare : decodesTo
    [([0xC9, 0xF1], .cmpImm 0xF1), ([0xC5, 0xF1], .cmpZp 0xF1), ([0xD5, 0xF1], .cmpZpX 0xF1),
     ([0xCD, 0xCD, 0xAB], .cmpAbs 0xABCD), ([0xDD, 0xCD, 0xAB], .cmpAbsX 0xABCD),
     ([0xD9, 0xCD, 0xAB], .cmpAbsY 0xABCD), ([0xC1, 0xF1], .cmpIndX 0xF1), ([0xD1, 0xF1], .cmpIndY 0xF1),
     ([0xE0, 0xF1], .cpxImm 0xF1), ([0xE4, 0xF1], .cpxZp 0xF1), ([0xEC, 0xCD, 0xAB], .cpxAbs 0xABCD),
     ([0xC0, 0xF1], .cpyImm 0xF1), ([0xC4, 0xF1], .cpyZp 0xF1), ([0xCC, 0xCD, 0xAB], .cpyAbs 0xABCD)] = true := by decide

theorem test_decode_inc_dec : decodesTo
    [([0xE6, 0xF1], .incZp 0xF1), ([0xF6, 0xF1], .incZpX 0xF1), ([0xEE, 0xCD, 0xAB], .incAbs 0xABCD),
     ([0xFE, 0xCD, 0xAB], .incAbsX 0xABCD), ([0xC6, 0xF1], .decZp 0xF1), ([0xD6, 0xF1], .decZpX 0xF1),
     ([0xCE, 0xCD, 0xAB], .decAbs 0xABCD), ([0xDE, 0xCD, 0xAB], .decAbsX 0xABCD), ([0xE8], .inx), ([0xCA], .dex),
     ([0xC8], .iny), ([0x88], .dey)] = true := by decide

theorem test_decode_load : decodesTo
    [([0xA9, 0xF1], .ldaImm 0xF1), ([0xA5, 0xF1], .ldaZp 0xF1), ([0xB5, 0xF1], .ldaZpX 0xF1),
     ([0xAD, 0xCD, 0xAB], .ldaAbs 0xABCD), ([0xBD, 0xCD, 0xAB], .ldaAbsX 0xABCD),
     ([0xB9, 0xCD, 0xAB], .ldaAbsY 0xABCD), ([0xA1, 0xF1], .ldaIndX 0xF1), ([0xB1, 0xF1], .ldaIndY 0xF1),
     ([0xA2, 0xF1], .ldxImm 0xF1), ([0xA6, 0xF1], .ldxZp 0xF1), ([0xB6, 0xF1], .ldxZpY 0xF1),
     ([0xAE, 0xCD, 0xAB], .ldxAbs 0xABCD), ([0xBE, 0xCD, 0xAB], .ldxAbsY 0xABCD), ([0xA0, 0xF1], .ldyImm 0xF1),
     ([0xA4, 0xF1], .ldyZp 0xF1), ([0xB4, 0xF1], .ldyZpX 0xF1), ([0xAC, 0xCD, 0xAB], .ldyAbs 0xABCD),
     ([0xBC, 0xCD, 0xAB], .ldyAbsX 0xABCD)] = true := by decide

theorem test_decode_store : decodesTo
    [([0x85, 0xF1], .staZp 0xF1), ([0x95, 0xF1], .staZpX 0xF1), ([0x8D, 0xCD, 0xAB], .staAbs 0xABCD),
     ([0x9D, 0xCD, 0xAB], .staAbsX 0xABCD), ([0x99, 0xCD, 0xAB], .staAbsY 0xABCD), ([0x81, 0xF1], .staIndX 0xF1),
     ([0x91, 0xF1], .staIndY 0xF1), ([0x86, 0xF1], .stxZp 0xF1), ([0x96, 0xF1], .stxZpY 0xF1),
     ([0x8E, 0xCD, 0xAB], .stxAbs 0xABCD), ([0x84, 0xF1], .styZp 0xF1), ([0x94, 0xF1], .styZpX 0xF1),
     ([0x8C, 0xCD, 0xAB], .styAbs 0xABCD)] = true := by decide

theorem test_decode_transfer_stack : decodesTo
    [([0xAA], .tax), ([0x8A], .txa), ([0xA8], .tay), ([0x98], .tya), ([0xBA], .tsx), ([0x9A], .txs), ([0x48], .pha),
     ([0x68], .pla), ([0x08], .php), ([0x28], .plp)] = true := by decide

theorem test_decode_branch_jump : decodesTo
    [([0x90, 0xF1], .bcc 0xF1), ([0xB0, 0xF1], .bcs 0xF1), ([0xF0, 0xF1], .beq 0xF1), ([0xD0, 0xF1], .bne 0xF1),
     ([0x10, 0xF1], .bpl 0xF1), ([0x30, 0xF1], .bmi 0xF1), ([0x50, 0xF1], .bvc 0xF1), ([0x70, 0xF1], .bvs 0xF1),
     ([0x4C, 0xCD, 0xAB], .jmpAbs 0xABCD), ([0x6C, 0xCD, 0xAB], .jmpInd 0xABCD), ([0x20, 0xCD, 0xAB], .jsr 0xABCD),
     ([0x60], .rts)] = true := by decide

theorem test_decode_interrupt_flag_nop : decodesTo
    [([0x00], .brk), ([0x40], .rti), ([0x18], .clc), ([0x38], .sec), ([0x58], .cli), ([0x78], .sei), ([0xB8], .clv),
     ([0xD8], .cld), ([0xF8], .sed), ([0xEA], .nop)] = true := by decide

/-- A byte that is no documented opcode is refused by name (R85), in its own byte, with none of the bytes after it used. -/
theorem test_decode_illegal : (decode [0x02, 0x11]).toOption = some (.illegal 0x02, [0x11]) ∧
    (decode [0xEB]).toOption = some (.illegal 0xEB, []) ∧ (decode [0xFF]).toOption = some (.illegal 0xFF, []) := by decide

/-- No bytes, and too few bytes, are rejected by name. -/
theorem test_decode_rejects : decode [] = .error .noOpcode ∧ decode [0xAD, 0xCD] = .error (.truncated 0xAD) :=
  ⟨rfl, rfl⟩

/-- Bytes after the instruction are left (R81). -/
theorem test_decode_leaves_rest : (decode [0xA9, 0x10, 0xEA]).toOption = some (.ldaImm 0x10, [0xEA]) := by decide

/-- A table word: bit 0 is the least significant bit of the first byte. -/
theorem test_decode_table_word : decodeTableWord 24 0xABCDAD = some (.ldaAbs 0xABCD) ∧
    decodeTableWord 8 0xAD = some (.ldaAbs 0x0000) := by decide

/-! ### One step on a small state. -/

/-- `bytes` at `pc`, the cells of a vector, and the default registers of 95_test_vectors.md. -/
def start (pc : Word) (bytes : List Byte) (cells : List (Word × Byte)) : State :=
  { State.create (cells.foldl (fun m cell => m.write cell.1 cell.2) (Memory.writeImage [] pc bytes)) with pc := pc }

/-- What a vector lists of a next state: A, X, Y, S, PC, the flags as their packed byte, the cycles, and the named cells. -/
def shows (r : Answer) (cells : List Word) : List Nat :=
  match r with
  | .next t =>
    [t.a.toNat, t.x.toNat, t.y.toNat, t.sp.toNat, t.pc.toNat, (t.flags.pack t.flags.b).toNat, t.cycles] ++
      cells.map fun addr => (t.read addr).toNat
  | .fault _ => []
  | .refused _ => []

/-- The engine state of a next state. -/
def engineOf (r : Answer) : Option Engine :=
  match r with
  | .next t => some t.engine
  | .fault _ => none
  | .refused _ => none

/-! Addressing modes (section 2.1). -/

/-- `LDA $FF,X` (R105). -/
theorem test_V1 :
    shows (step { start 0x0200 [0xB5, 0xFF] [(0x0001, 0x5A)] with x := 0x02 })
      [] = [0x5A, 0x02, 0x00, 0xFD, 0x0202, 0x34, 4] := by decide

/-- `LDX $80,Y` (R106). -/
theorem test_V3 :
    shows (step { start 0x0200 [0xB6, 0x80] [(0x007F, 0x33)] with y := 0xFF })
      [] = [0x00, 0x33, 0xFF, 0xFD, 0x0202, 0x34, 4] := by decide

/-- `STX $FF,Y` (R106). -/
theorem test_V4 :
    shows (step { start 0x0200 [0x96, 0xFF] [] with x := 0x07, y := 0x02 })
      [0x0001] = [0x00, 0x07, 0x02, 0xFD, 0x0202, 0x34, 4, 0x07] := by decide

/-- `LDA $10` (R104). -/
theorem test_V5 :
    shows (step (start 0x0200 [0xA5, 0x10] [(0x0010, 0x00)]))
      [] = [0x00, 0x00, 0x00, 0xFD, 0x0202, 0x36, 3] := by decide

/-- `LDA $ABCD` (R108). -/
theorem test_V6 :
    shows (step (start 0x0200 [0xAD, 0xCD, 0xAB] [(0xABCD, 0x77)]))
      [] = [0x77, 0x00, 0x00, 0xFD, 0x0203, 0x34, 4] := by decide

/-- `LDA $FFFF,X` (R109). -/
theorem test_V9 :
    shows (step { start 0x0200 [0xBD, 0xFF, 0xFF] [(0x0000, 0x03)] with x := 0x01 })
      [] = [0x03, 0x01, 0x00, 0xFD, 0x0203, 0x34, 5] := by decide

/-- `LDA $20FF,Y` (R110). -/
theorem test_V10 :
    shows (step { start 0x0200 [0xB9, 0xFF, 0x20] [(0x21FE, 0x04)] with y := 0xFF })
      [] = [0x04, 0x00, 0xFF, 0xFD, 0x0203, 0x34, 5] := by decide

/-- `STA $12F0,X` (R109). -/
theorem test_V11 :
    shows (step { start 0x0200 [0x9D, 0xF0, 0x12] [] with a := 0xEE, x := 0x10 })
      [0x1300] = [0xEE, 0x10, 0x00, 0xFD, 0x0203, 0x34, 5, 0xEE] := by decide

/-- `LDA ($F0,X)` (R112). -/
theorem test_V14 :
    shows (step { start 0x0200 [0xA1, 0xF0] [(0x00FF, 0x78), (0x0000, 0x56), (0x5678, 0x22)] with x := 0x0F })
      [] = [0x22, 0x0F, 0x00, 0xFD, 0x0202, 0x34, 6] := by decide

/-- `LDA ($FF),Y` (R113). -/
theorem test_V17 :
    shows (step { start 0x0200 [0xB1, 0xFF] [(0x00FF, 0x00), (0x0000, 0x40), (0x4001, 0x46)] with y := 0x01 })
      [] = [0x46, 0x00, 0x01, 0xFD, 0x0202, 0x34, 5] := by decide

/-- `LDA ($40),Y` (R113). -/
theorem test_V18 :
    shows (step { start 0x0200 [0xB1, 0x40] [(0x0040, 0xFF), (0x0041, 0xFF), (0x0001, 0x47)] with y := 0x02 })
      [] = [0x47, 0x00, 0x02, 0xFD, 0x0202, 0x34, 6] := by decide

/-- `STA ($40),Y` (R113). -/
theorem test_V19 :
    shows (step { start 0x0200 [0x91, 0x40] [(0x0040, 0xF8), (0x0041, 0x30)] with a := 0xAB, y := 0x10 })
      [0x3108] = [0xAB, 0x00, 0x10, 0xFD, 0x0202, 0x34, 6, 0xAB] := by decide

/-- `LDA #$42` (R102). -/
theorem test_V20 :
    shows (step (start 0xFFFF [0xA9, 0x42] []))
      [] = [0x42, 0x00, 0x00, 0xFD, 0x0001, 0x34, 2] := by decide

/-! Add and subtract (R120, R121, R123). -/

/-- `ADC #$50` (R120). -/
theorem test_V21 :
    shows (step { start 0x0200 [0x69, 0x50] [] with a := 0x50 })
      [] = [0xA0, 0x00, 0x00, 0xFD, 0x0202, 0xF4, 2] := by decide

/-- `ADC #$7F` (R120). -/
theorem test_V26 :
    shows (step { start 0x0200 [0x69, 0x7F] [] with flags := Flags.unpack 0x35 })
      [] = [0x80, 0x00, 0x00, 0xFD, 0x0202, 0xF4, 2] := by decide

/-- `ADC #$01` (R123). -/
theorem test_V29 :
    shows (step { start 0x0200 [0x69, 0x01] [] with a := 0x09, flags := Flags.unpack 0x3C })
      [] = [0x0A, 0x00, 0x00, 0xFD, 0x0202, 0x3C, 2] := by decide

/-- `ADC $10FF,Y` (R120). -/
theorem test_V31 :
    shows (step { start 0x0200 [0x79, 0xFF, 0x10] [(0x1100, 0x02)] with a := 0x01, y := 0x01 })
      [] = [0x03, 0x00, 0x01, 0xFD, 0x0203, 0x34, 5] := by decide

/-- `ADC ($20,X)` (R120). -/
theorem test_V32 :
    shows (step { start 0x0200 [0x61, 0x20] [(0x0000, 0x00), (0x0001, 0x50), (0x5000, 0x0F)] with a := 0x01, x := 0xE0 })
      [] = [0x10, 0xE0, 0x00, 0xFD, 0x0202, 0x34, 6] := by decide

/-- `SBC #$B0` (R121). -/
theorem test_V34 :
    shows (step { start 0x0200 [0xE9, 0xB0] [] with a := 0x50, flags := Flags.unpack 0x35 })
      [] = [0xA0, 0x00, 0x00, 0xFD, 0x0202, 0xF4, 2] := by decide

/-- `SBC #$01` (R121). -/
theorem test_V38 :
    shows (step { start 0x0200 [0xE9, 0x01] [] with a := 0x80, flags := Flags.unpack 0x35 })
      [] = [0x7F, 0x00, 0x00, 0xFD, 0x0202, 0x75, 2] := by decide

/-- `SBC $F0,X` (R121). -/
theorem test_V41 :
    shows (step { start 0x0200 [0xF5, 0xF0] [(0x0010, 0x03)] with a := 0x05, x := 0x20, flags := Flags.unpack 0x35 })
      [] = [0x02, 0x20, 0x00, 0xFD, 0x0202, 0x35, 4] := by decide

/-! Logical and bit test (R130 to R133). -/

/-- `AND #$0F` (R130). -/
theorem test_V43 :
    shows (step { start 0x0200 [0x29, 0x0F] [] with a := 0xF0, flags := Flags.unpack 0x75 })
      [] = [0x00, 0x00, 0x00, 0xFD, 0x0202, 0x77, 2] := by decide

/-- `AND $3000,X` (R130). -/
theorem test_V44 :
    shows (step { start 0x0200 [0x3D, 0x00, 0x30] [(0x3001, 0x80)] with a := 0xFF, x := 0x01 })
      [] = [0x80, 0x01, 0x00, 0xFD, 0x0203, 0xB4, 4] := by decide

/-- `ORA #$80` (R131). -/
theorem test_V45 :
    shows (step { start 0x0200 [0x09, 0x80] [] with a := 0x0F })
      [] = [0x8F, 0x00, 0x00, 0xFD, 0x0202, 0xB4, 2] := by decide

/-- `ORA ($10),Y` (R131). -/
theorem test_V47 :
    shows (step { start 0x0200 [0x11, 0x10] [(0x0010, 0x00), (0x0011, 0x60), (0x6000, 0x02)] with a := 0x01 })
      [] = [0x03, 0x00, 0x00, 0xFD, 0x0202, 0x34, 5] := by decide

/-- `EOR #$FF` (R132). -/
theorem test_V48 :
    shows (step { start 0x0200 [0x49, 0xFF] [] with a := 0xAA })
      [] = [0x55, 0x00, 0x00, 0xFD, 0x0202, 0x34, 2] := by decide

/-- `EOR $10` (R132). -/
theorem test_V50 :
    shows (step { start 0x0200 [0x45, 0x10] [(0x0010, 0xF0)] with a := 0x0F })
      [] = [0xFF, 0x00, 0x00, 0xFD, 0x0202, 0xB4, 3] := by decide

/-- `BIT $10` (R133). -/
theorem test_V52 :
    shows (step { start 0x0200 [0x24, 0x10] [(0x0010, 0xC0)] with a := 0x01 })
      [] = [0x01, 0x00, 0x00, 0xFD, 0x0202, 0xF6, 3] := by decide

/-- `BIT $4000` (R133). -/
theorem test_V53 :
    shows (step { start 0x0200 [0x2C, 0x00, 0x40] [(0x4000, 0x3F)] with a := 0xFF, flags := Flags.unpack 0xF4 })
      [] = [0xFF, 0x00, 0x00, 0xFD, 0x0203, 0x34, 4] := by decide

/-! Shift and rotate (R140 to R143). -/

/-- `ASL A` (R140). -/
theorem test_V57 :
    shows (step { start 0x0200 [0x0A] [] with a := 0x40, flags := Flags.unpack 0x35 })
      [] = [0x80, 0x00, 0x00, 0xFD, 0x0201, 0xB4, 2] := by decide

/-- `ASL $12F0,X` (R140). -/
theorem test_V59 :
    shows (step { start 0x0200 [0x1E, 0xF0, 0x12] [(0x1300, 0xFF)] with x := 0x10 })
      [0x1300] = [0x00, 0x10, 0x00, 0xFD, 0x0203, 0xB5, 7, 0xFE] := by decide

/-- `LSR A` (R141). -/
theorem test_V62 :
    shows (step { start 0x0200 [0x4A] [] with a := 0x80, flags := Flags.unpack 0x35 })
      [] = [0x40, 0x00, 0x00, 0xFD, 0x0201, 0x34, 2] := by decide

/-- `LSR $10,X` (R141). -/
theorem test_V63 :
    shows (step { start 0x0200 [0x56, 0x10] [(0x0011, 0xFE)] with x := 0x01 })
      [0x0011] = [0x00, 0x01, 0x00, 0xFD, 0x0202, 0x34, 6, 0x7F] := by decide

/-- `ROL A` (R142). -/
theorem test_V64 :
    shows (step { start 0x0200 [0x2A] [] with a := 0x40, flags := Flags.unpack 0x35 })
      [] = [0x81, 0x00, 0x00, 0xFD, 0x0201, 0xB4, 2] := by decide

/-- `ROL $3000` (R142). -/
theorem test_V67 :
    shows (step { start 0x0200 [0x2E, 0x00, 0x30] [(0x3000, 0x7F)] with flags := Flags.unpack 0x35 })
      [0x3000] = [0x00, 0x00, 0x00, 0xFD, 0x0203, 0xB4, 6, 0xFF] := by decide

/-- `ROR A` (R143). -/
theorem test_V68 :
    shows (step { start 0x0200 [0x6A] [] with a := 0x01, flags := Flags.unpack 0x35 })
      [] = [0x80, 0x00, 0x00, 0xFD, 0x0201, 0xB5, 2] := by decide

/-- `ROR $10` (R143). -/
theorem test_V71 :
    shows (step { start 0x0200 [0x66, 0x10] [(0x0010, 0x00)] with flags := Flags.unpack 0x35 })
      [0x0010] = [0x00, 0x00, 0x00, 0xFD, 0x0202, 0xB4, 5, 0x80] := by decide

/-! Compare (R150 to R152). -/

/-- `CMP #$7F` (R150). -/
theorem test_V75 :
    shows (step { start 0x0200 [0xC9, 0x7F] [] with a := 0x80 })
      [] = [0x80, 0x00, 0x00, 0xFD, 0x0202, 0x35, 2] := by decide

/-- `CMP #$00` (R150). -/
theorem test_V76 :
    shows (step { start 0x0200 [0xC9, 0x00] [] with a := 0xFF })
      [] = [0xFF, 0x00, 0x00, 0xFD, 0x0202, 0xB5, 2] := by decide

/-- `CMP $3000,Y` (R150). -/
theorem test_V78 :
    shows (step { start 0x0200 [0xD9, 0x00, 0x30] [(0x3005, 0x20)] with a := 0x20, y := 0x05 })
      [] = [0x20, 0x00, 0x05, 0xFD, 0x0203, 0x37, 4] := by decide

/-- `CPX $10` (R151). -/
theorem test_V80 :
    shows (step { start 0x0200 [0xE4, 0x10] [(0x0010, 0x02)] with x := 0x01 })
      [] = [0x00, 0x01, 0x00, 0xFD, 0x0202, 0xB4, 3] := by decide

/-- `CPX $3000` (R151). -/
theorem test_V81 :
    shows (step { start 0x0200 [0xEC, 0x00, 0x30] [(0x3000, 0x10)] with x := 0x90 })
      [] = [0x00, 0x90, 0x00, 0xFD, 0x0203, 0xB5, 4] := by decide

/-- `CPY #$01` (R152). -/
theorem test_V82 :
    shows (step (start 0x0200 [0xC0, 0x01] []))
      [] = [0x00, 0x00, 0x00, 0xFD, 0x0202, 0xB4, 2] := by decide

/-- `CPY $3000` (R152). -/
theorem test_V84 :
    shows (step { start 0x0200 [0xCC, 0x00, 0x30] [(0x3000, 0x01)] with y := 0x02 })
      [] = [0x00, 0x00, 0x02, 0xFD, 0x0203, 0x35, 4] := by decide

/-! Increment and decrement (R160 to R165). -/

/-- `INC $10` (R160). -/
theorem test_V85 :
    shows (step (start 0x0200 [0xE6, 0x10] [(0x0010, 0xFF)]))
      [0x0010] = [0x00, 0x00, 0x00, 0xFD, 0x0202, 0x36, 5, 0x00] := by decide

/-- `INC $30FF,X` (R160). -/
theorem test_V87 :
    shows (step { start 0x0200 [0xFE, 0xFF, 0x30] [(0x3100, 0x00)] with x := 0x01 })
      [0x3100] = [0x00, 0x01, 0x00, 0xFD, 0x0203, 0x34, 7, 0x01] := by decide

/-- `DEC $FF,X` (R161). -/
theorem test_V89 :
    shows (step { start 0x0200 [0xD6, 0xFF] [(0x0010, 0x01)] with x := 0x11 })
      [0x0010] = [0x00, 0x11, 0x00, 0xFD, 0x0202, 0x36, 6, 0x00] := by decide

/-- `DEC $3000` (R161). -/
theorem test_V90 :
    shows (step (start 0x0200 [0xCE, 0x00, 0x30] [(0x3000, 0x80)]))
      [0x3000] = [0x00, 0x00, 0x00, 0xFD, 0x0203, 0x34, 6, 0x7F] := by decide

/-- `INX` (R162). -/
theorem test_V92 :
    shows (step { start 0x0200 [0xE8] [] with x := 0xFF })
      [] = [0x00, 0x00, 0x00, 0xFD, 0x0201, 0x36, 2] := by decide

/-- `DEX` (R163). -/
theorem test_V94 :
    shows (step (start 0x0200 [0xCA] []))
      [] = [0x00, 0xFF, 0x00, 0xFD, 0x0201, 0xB4, 2] := by decide

/-- `INY` (R164). -/
theorem test_V96 :
    shows (step { start 0x0200 [0xC8] [] with y := 0xFF })
      [] = [0x00, 0x00, 0x00, 0xFD, 0x0201, 0x36, 2] := by decide

/-- `DEY` (R165). -/
theorem test_V98 :
    shows (step (start 0x0200 [0x88] []))
      [] = [0x00, 0x00, 0xFF, 0xFD, 0x0201, 0xB4, 2] := by decide

/-! Load and store (R170 to R175). -/

/-- `LDA #$00` (R170). -/
theorem test_V99 :
    shows (step { start 0x0200 [0xA9, 0x00] [] with a := 0x55 })
      [] = [0x00, 0x00, 0x00, 0xFD, 0x0202, 0x36, 2] := by decide

/-- `LDX $30FF,Y` (R171). -/
theorem test_V102 :
    shows (step { start 0x0200 [0xBE, 0xFF, 0x30] [(0x3100, 0x00)] with y := 0x01 })
      [] = [0x00, 0x00, 0x01, 0xFD, 0x0203, 0x36, 5] := by decide

/-- `LDY #$10` (R172). -/
theorem test_V103 :
    shows (step (start 0x0200 [0xA0, 0x10] []))
      [] = [0x00, 0x00, 0x10, 0xFD, 0x0202, 0x34, 2] := by decide

/-- `LDY $F0,X` (R172). -/
theorem test_V104 :
    shows (step { start 0x0200 [0xB4, 0xF0] [(0x0010, 0x90)] with x := 0x20 })
      [] = [0x00, 0x20, 0x90, 0xFD, 0x0202, 0xB4, 4] := by decide

/-- `STA $0300` (R173). -/
theorem test_V106 :
    shows (step { start 0x0200 [0x8D, 0x00, 0x03] [] with a := 0x42, flags := Flags.unpack 0xB6 })
      [0x0300] = [0x42, 0x00, 0x00, 0xFD, 0x0203, 0xB6, 4, 0x42] := by decide

/-- `STA $10` (R173). -/
theorem test_V107 :
    shows (step (start 0x0200 [0x85, 0x10] []))
      [0x0010] = [0x00, 0x00, 0x00, 0xFD, 0x0202, 0x34, 3, 0x00] := by decide

/-- `STA ($20,X)` (R173). -/
theorem test_V108 :
    shows (step { start 0x0200 [0x81, 0x20] [(0x0021, 0x00), (0x0022, 0x03)] with a := 0x77, x := 0x01 })
      [0x0300] = [0x77, 0x01, 0x00, 0xFD, 0x0202, 0x34, 6, 0x77] := by decide

/-- `STA $02FF,Y` (R173). -/
theorem test_V109 :
    shows (step { start 0x0200 [0x99, 0xFF, 0x02] [] with a := 0x01, y := 0x01 })
      [0x0300] = [0x01, 0x00, 0x01, 0xFD, 0x0203, 0x34, 5, 0x01] := by decide

/-- `STY $10` (R175). -/
theorem test_V113 :
    shows (step { start 0x0200 [0x84, 0x10] [] with y := 0x99 })
      [0x0010] = [0x00, 0x00, 0x99, 0xFD, 0x0202, 0x34, 3, 0x99] := by decide

/-- `STY $FF,X` (R175). -/
theorem test_V114 :
    shows (step { start 0x0200 [0x94, 0xFF] [] with x := 0x01, y := 0x09 })
      [0x0000] = [0x00, 0x01, 0x09, 0xFD, 0x0202, 0x34, 4, 0x09] := by decide

/-! Transfers and stack (R180 to R189). -/

/-- `TAX` (R180). -/
theorem test_V115 :
    shows (step { start 0x0200 [0xAA] [] with a := 0x80 })
      [] = [0x80, 0x80, 0x00, 0xFD, 0x0201, 0xB4, 2] := by decide

/-- `TXA` (R181). -/
theorem test_V116 :
    shows (step { start 0x0200 [0x8A] [] with a := 0x55 })
      [] = [0x00, 0x00, 0x00, 0xFD, 0x0201, 0x36, 2] := by decide

/-- `TAY` (R182). -/
theorem test_V117 :
    shows (step { start 0x0200 [0xA8] [] with a := 0x05 })
      [] = [0x05, 0x00, 0x05, 0xFD, 0x0201, 0x34, 2] := by decide

/-- `TYA` (R183). -/
theorem test_V118 :
    shows (step { start 0x0200 [0x98] [] with y := 0xFF })
      [] = [0xFF, 0x00, 0xFF, 0xFD, 0x0201, 0xB4, 2] := by decide

/-- `TSX` (R184). -/
theorem test_V119 :
    shows (step (start 0x0200 [0xBA] []))
      [] = [0x00, 0xFD, 0x00, 0xFD, 0x0201, 0xB4, 2] := by decide

/-- `TXS` (R185). -/
theorem test_V121 :
    shows (step { start 0x0200 [0x9A] [] with x := 0xFF, flags := Flags.unpack 0x36 })
      [] = [0x00, 0xFF, 0x00, 0xFF, 0x0201, 0x36, 2] := by decide

/-- `PHA` (R186). -/
theorem test_V124 :
    shows (step { start 0x0200 [0x48] [] with a := 0x43, sp := 0x00 })
      [0x0100] = [0x43, 0x00, 0x00, 0xFF, 0x0201, 0x34, 3, 0x43] := by decide

/-- `PLA` (R187). -/
theorem test_V126 :
    shows (step { start 0x0200 [0x68] [(0x0100, 0x00)] with a := 0x01, sp := 0xFF })
      [] = [0x00, 0x00, 0x00, 0x00, 0x0201, 0x36, 4] := by decide

/-- `PHP` (R188). -/
theorem test_V131 :
    shows (step { start 0x0200 [0x08] [] with flags := Flags.unpack 0x20 })
      [0x01FD] = [0x00, 0x00, 0x00, 0xFC, 0x0201, 0x20, 3, 0x20] := by decide

/-- `PHP` (R188). -/
theorem test_V132 :
    shows (step { start 0x0200 [0x08] [] with flags := Flags.unpack 0xA5 })
      [0x01FD] = [0x00, 0x00, 0x00, 0xFC, 0x0201, 0xA5, 3, 0xA5] := by decide

/-- `PLP` (R189). -/
theorem test_V133 :
    shows (step { start 0x0200 [0x28] [(0x01FD, 0xC3)] with sp := 0xFC })
      [] = [0x00, 0x00, 0x00, 0xFD, 0x0201, 0xE3, 4] := by decide

/-- `PLP` (R189). -/
theorem test_V135 :
    shows (step { start 0x0200 [0x28] [(0x01FD, 0xDF)] with sp := 0xFC })
      [] = [0x00, 0x00, 0x00, 0xFD, 0x0201, 0xFF, 4] := by decide

/-! Branches (R200 to R208), taken and not taken. -/

/-- `BCC $0212` (R201). -/
theorem test_V137 :
    shows (step (start 0x0200 [0x90, 0x10] []))
      [] = [0x00, 0x00, 0x00, 0xFD, 0x0212, 0x34, 3] := by decide

/-- `BCC $0212` (R201). -/
theorem test_V138 :
    shows (step { start 0x0200 [0x90, 0x10] [] with flags := Flags.unpack 0x35 })
      [] = [0x00, 0x00, 0x00, 0xFD, 0x0202, 0x35, 2] := by decide

/-- `BCS $8081` (R107, R202). -/
theorem test_V155 :
    shows (step { start 0x8000 [0xB0, 0x7F] [] with flags := Flags.unpack 0x35 })
      [] = [0x00, 0x00, 0x00, 0xFD, 0x8081, 0x35, 3] := by decide

/-- `BEQ $7F82` (R107, R203). -/
theorem test_V154 :
    shows (step { start 0x8000 [0xF0, 0x80] [] with flags := Flags.unpack 0x36 })
      [] = [0x00, 0x00, 0x00, 0xFD, 0x7F82, 0x36, 3] := by decide

/-- `BEQ $0212` (R203). -/
theorem test_V142 :
    shows (step (start 0x0200 [0xF0, 0x10] []))
      [] = [0x00, 0x00, 0x00, 0xFD, 0x0202, 0x34, 2] := by decide

/-- `BNE $8002` (R204). -/
theorem test_V156 :
    shows (step (start 0x8005 [0xD0, 0xFB] []))
      [] = [0x00, 0x00, 0x00, 0xFD, 0x8002, 0x34, 3] := by decide

/-- `BPL $FFFE` (R205). -/
theorem test_V157 :
    shows (step (start 0x0000 [0x10, 0xFC] []))
      [] = [0x00, 0x00, 0x00, 0xFD, 0xFFFE, 0x34, 3] := by decide

/-- `BPL $0212` (R205). -/
theorem test_V146 :
    shows (step { start 0x0200 [0x10, 0x10] [] with flags := Flags.unpack 0xB4 })
      [] = [0x00, 0x00, 0x00, 0xFD, 0x0202, 0xB4, 2] := by decide

/-- `BMI $8001` (R107, R206). -/
theorem test_V153 :
    shows (step { start 0x8000 [0x30, 0xFF] [] with flags := Flags.unpack 0xB4 })
      [] = [0x00, 0x00, 0x00, 0xFD, 0x8001, 0xB4, 3] := by decide

/-- `BVC $0212` (R207). -/
theorem test_V149 :
    shows (step (start 0x0200 [0x50, 0x10] []))
      [] = [0x00, 0x00, 0x00, 0xFD, 0x0212, 0x34, 3] := by decide

/-- `BVS $0212` (R208). -/
theorem test_V151 :
    shows (step { start 0x0200 [0x70, 0x10] [] with flags := Flags.unpack 0x74 })
      [] = [0x00, 0x00, 0x00, 0xFD, 0x0212, 0x74, 3] := by decide

/-! Jumps and subroutines (R209 to R211). -/

/-- `JMP $1234` (R209). -/
theorem test_V161 :
    shows (step (start 0x0200 [0x4C, 0x34, 0x12] []))
      [] = [0x00, 0x00, 0x00, 0xFD, 0x1234, 0x34, 3] := by decide

/-- `JMP ($10FF)` (R209, R111). -/
theorem test_V163 :
    shows (step (start 0x0200 [0x6C, 0xFF, 0x10] [(0x10FF, 0x34), (0x1000, 0x12)]))
      [] = [0x00, 0x00, 0x00, 0xFD, 0x1234, 0x34, 5] := by decide

/-- `JSR $9000` (R210). -/
theorem test_V165 :
    shows (step (start 0x8000 [0x20, 0x00, 0x90] []))
      [0x01FD, 0x01FC] = [0x00, 0x00, 0x00, 0xFB, 0x9000, 0x34, 6, 0x80, 0x02] := by decide

/-- `JSR $9000` (R210). -/
theorem test_V168 :
    shows (step { start 0x8000 [0x20, 0x00, 0x90] [] with sp := 0x00 })
      [0x0100, 0x01FF] = [0x00, 0x00, 0x00, 0xFE, 0x9000, 0x34, 6, 0x80, 0x02] := by decide

/-- `RTS` (R211). -/
theorem test_V166 :
    shows (step { start 0x9000 [0x60] [(0x01FC, 0x02), (0x01FD, 0x80)] with sp := 0xFB })
      [] = [0x00, 0x00, 0x00, 0xFD, 0x8003, 0x34, 6] := by decide

/-- `RTS` (R211). -/
theorem test_V169 :
    shows (step { start 0x0200 [0x60] [(0x01FF, 0xFF), (0x0100, 0xFF)] with sp := 0xFE })
      [] = [0x00, 0x00, 0x00, 0x00, 0x0000, 0x34, 6] := by decide

/-! Software interrupt (R220, R221). -/

/-- `BRK` (R220). -/
theorem test_V173 :
    shows (step { start 0x0200 [0x00] [(0xFFFE, 0x34), (0xFFFF, 0x12)] with flags := Flags.unpack 0x20 })
      [0x01FD, 0x01FC, 0x01FB] = [0x00, 0x00, 0x00, 0xFA, 0x1234, 0x24, 7, 0x02, 0x02, 0x30] := by decide

/-- `BRK` (R220). -/
theorem test_V174 :
    shows (step { start 0xFFFF [0x00] [(0xFFFE, 0x80)] with flags := Flags.unpack 0x3C })
      [0x01FD, 0x01FC, 0x01FB] = [0x00, 0x00, 0x00, 0xFA, 0x0080, 0x3C, 7, 0x00, 0x01, 0x3C] := by decide

/-- `RTI` (R221). -/
theorem test_V172 :
    shows (step { start 0x9000 [0x40] [(0x01FB, 0x33), (0x01FC, 0x02), (0x01FD, 0x80)] with sp := 0xFA })
      [] = [0x00, 0x00, 0x00, 0xFD, 0x8002, 0x33, 6] := by decide

/-- `RTI` (R221). -/
theorem test_V177 :
    shows (step { start 0x0200 [0x40] [(0x01FF, 0x00), (0x0100, 0xCD), (0x0101, 0xAB)] with sp := 0xFE })
      [] = [0x00, 0x00, 0x00, 0x01, 0xABCD, 0x20, 6] := by decide

/-! Flags and no-operation (R222 to R229). -/

/-- `CLC` (R222). -/
theorem test_V178 :
    shows (step { start 0x0200 [0x18] [] with flags := Flags.unpack 0x35 })
      [] = [0x00, 0x00, 0x00, 0xFD, 0x0201, 0x34, 2] := by decide

/-- `SEC` (R223). -/
theorem test_V180 :
    shows (step (start 0x0200 [0x38] []))
      [] = [0x00, 0x00, 0x00, 0xFD, 0x0201, 0x35, 2] := by decide

/-- `CLI` (R224). -/
theorem test_V181 :
    shows (step (start 0x0200 [0x58] []))
      [] = [0x00, 0x00, 0x00, 0xFD, 0x0201, 0x30, 2] := by decide

/-- `SEI` (R225). -/
theorem test_V182 :
    shows (step { start 0x0200 [0x78] [] with flags := Flags.unpack 0x30 })
      [] = [0x00, 0x00, 0x00, 0xFD, 0x0201, 0x34, 2] := by decide

/-- `CLV` (R226). -/
theorem test_V183 :
    shows (step { start 0x0200 [0xB8] [] with flags := Flags.unpack 0x74 })
      [] = [0x00, 0x00, 0x00, 0xFD, 0x0201, 0x34, 2] := by decide

/-- `CLD` (R227). -/
theorem test_V184 :
    shows (step { start 0x0200 [0xD8] [] with flags := Flags.unpack 0x3C })
      [] = [0x00, 0x00, 0x00, 0xFD, 0x0201, 0x34, 2] := by decide

/-- `SED` (R228). -/
theorem test_V185 :
    shows (step (start 0x0200 [0xF8] []))
      [] = [0x00, 0x00, 0x00, 0xFD, 0x0201, 0x3C, 2] := by decide

/-- `NOP` (R229). -/
theorem test_V186 :
    shows (step { start 0x8000 [0xEA] [] with a := 0x01, x := 0x02, y := 0x03, flags := Flags.unpack 0xB5 })
      [] = [0x01, 0x02, 0x03, 0xFD, 0x8001, 0xB5, 2] := by decide

/-- `NOP` (R229, R22). -/
theorem test_V187 :
    shows (step (start 0xFFFF [0xEA] []))
      [] = [0x00, 0x00, 0x00, 0xFD, 0x0000, 0x34, 2] := by decide

/-! The engine (section 2.11). -/

/-- V188: an illegal byte faults the engine and changes nothing else. -/
theorem test_V188 : engineOf (step { start 0x0200 [0x02] [] with a := 0x11 }) = some (.faulted (.illegalOpcode 0x02 0x0200)) ∧
    shows (step { start 0x0200 [0x02] [] with a := 0x11 }) [] = [0x11, 0x00, 0x00, 0xFD, 0x0200, 0x34, 0] := by decide

/-- V193: a stop request halts before the fetch. -/
theorem test_V193 : engineOf (step { start 0x0200 [0xE8] [] with stop := true }) = some .halted ∧
    shows (step { start 0x0200 [0xE8] [] with stop := true }) [] = [0x00, 0x00, 0x00, 0xFD, 0x0200, 0x34, 0] := by decide

/-- V191, the second call: a step in FAULTED changes nothing. -/
theorem test_V191 : engineOf (step { start 0x0200 [0xEA] [] with engine := .faulted (.illegalOpcode 0x02 0x0200) }) =
      some (.faulted (.illegalOpcode 0x02 0x0200)) ∧
    shows (step { start 0x0200 [0xEA] [] with engine := .faulted (.illegalOpcode 0x02 0x0200) }) [] =
      [0x00, 0x00, 0x00, 0xFD, 0x0200, 0x34, 0] := by decide

/-! ### Reset and `load` (section 2.13). -/

/-- T1. -/
theorem test_T1 : State.create [(0xFFFD, 0x80)] =
    { a := 0, x := 0, y := 0, sp := 0xFD, pc := 0x8000, mem := [(0xFFFD, 0x80)], engine := .ready, cycles := 0, stop := false
      flags := { n := false, v := false, b := true, d := false, i := true, z := false, c := false } } := by decide

/-- T2: PC = 0xFFFF. T2's remark calls 0xFFFF the cell of the reset vector's high byte, which R32 puts at 0xFFFD; here that cell
holds 0xFF by itself, and the first step faults on it. -/
theorem test_T2 :
    let s := State.create [(0xFFFC, 0xFF), (0xFFFD, 0xFF), (0xFFFF, 0xFF)]
    s.pc = 0xFFFF ∧ engineOf (step s) = some (.faulted (.illegalOpcode 0xFF 0xFFFF)) := by decide

/-- Is a load refused? -/
def refuses (r : Answer) : Bool :=
  match r with
  | .next _ => false
  | .fault _ => false
  | .refused _ => true

/-- T3 and T4: 16 bytes at 0xFFF0 fit, 17 do not. -/
theorem test_T3_T4 : refuses (load 0xFFF0 (List.replicate 16 0x11) State.reset) = false ∧
    refuses (load 0xFFF0 (List.replicate 17 0x11) State.reset) = true := by decide

/-- T7: an empty image changes nothing. -/
theorem test_T7 : load 0x1234 [] State.reset = .next State.reset := rfl

/-- T8: one byte at 0xFFFF. -/
theorem test_T8 : load 0xFFFF [0xEA] State.reset = .next { State.reset with mem := [(0xFFFF, 0xEA)] } := rfl

/-- A write of what an unlisted cell reads as removes the entry, so equal memories are equal lists (log 2). -/
theorem test_memory_canonical : Memory.write [(0x10, 0x55)] 0x10 0x00 = [] ∧
    Memory.write [(0x10, 0x55), (0x20, 0x66)] 0x18 0x01 = [(0x10, 0x55), (0x18, 0x01), (0x20, 0x66)] := by decide

/-! ### Witnesses: the hypotheses of the statements can be met. -/

/-- DecodeOfEncodeIsTheInstruction and the statements over well-formed instructions. -/
theorem witness_wf : (Instr.adcImm 0xFF).wf = true ∧ (Instr.jmpInd 0xFFFF).wf = true ∧ (Instr.illegal 0x02).wf = true := by decide

/-- EveryOpcodeByteResolves: both clauses, at the ends of their ranges. -/
theorem witness_opcode_clauses : (0x02 : Byte) ∈ illegalOpcodes ∧ (0xFF : Byte) ∈ illegalOpcodes ∧
    (0x00 : Byte) ∉ illegalOpcodes ∧ (0xFE : Byte) ∉ illegalOpcodes := by decide

/-- StepRunsTheDecodedInstruction, with an instruction that wraps past 0xFFFF. -/
theorem witness_step_runs :
    let s := start 0xFFFF [0xAD, 0xCD, 0xAB] []
    s.engine = .ready ∧ s.stop = false ∧
      decode [s.read s.pc, s.read (s.pc + 1), s.read (s.pc + 2)] = .ok (.ldaAbs 0xABCD, []) := ⟨rfl, rfl, rfl⟩

/-- PlacedTableWordIsRun. -/
theorem witness_table_word : decodeTableWord 16 0x1FA9 = some (.ldaImm 0x1F) ∧
    engineOf (step (State.reset.withFetchWord 16 0x1FA9)) = some .ready := by decide

/-- MemoryWriteReplacesOneCell, another cell. -/
theorem witness_other_cell : (0x0000 : Word) ≠ 0xFFFF := by decide

/-- RewritingAHeldByteChangesNothing, with a listed cell and with an unlisted one. -/
theorem witness_canonical : (start 0x0200 [0xEA] []).mem.wf = true ∧ (start 0x0200 [0xEA] []).read 0x0200 = 0xEA ∧
    (start 0x0200 [0xEA] []).read 0x0201 = 0x00 := by decide

/-- OnlyTheStoredCellsChange: a cell outside the stored ones, and a form that stores nothing. -/
theorem witness_frame : (0x0011 : Word) ∉ Claims.storedCells (.staZp 0x10) State.reset ∧
    (0x0200 : Word) ∉ Claims.storedCells .brk State.reset ∧ Claims.storedCells (.cmpZp 0x10) State.reset = [] := by decide

/-- CyclesChargedByTheTable: a legal entry with the largest base count, and one with the extra cycle. -/
theorem witness_cycles : (Claims.entryOf .brk).mode ≠ .illegal ∧ (Claims.entryOf .brk).cycles = 7 ∧
    Claims.extraCycles (.ldaAbsX 0x00FF) { State.reset with x := 1 } = 1 ∧
    Claims.extraCycles (.ldaAbsX 0x00FE) { State.reset with x := 1 } = 0 := by decide

/-- EngineTransitionsAreExact: each clause. -/
theorem witness_engine_clauses : { State.reset with engine := .halted }.engine ≠ .ready ∧
    (State.reset.engine = .ready ∧ { State.reset with stop := true }.stop = true ∧ State.reset.stop = false) ∧
    isIllegalOpcode (State.reset.read State.reset.pc) = false ∧
    isIllegalOpcode ((start 0x0200 [0x02] []).read 0x0200) = true := by decide

/-- StepKeepsTheInvariant: a READY state that steps, and a FAULTED one with the invariant. -/
theorem witness_invariant : (start 0x0200 [0x02] []).Inv ∧
    step (start 0x0200 [0x02] []) =
      .next { start 0x0200 [0x02] [] with engine := .faulted (.illegalOpcode 0x02 0x0200) } ∧
    { start 0x0200 [0x02] [] with engine := .faulted (.illegalOpcode 0x02 0x0200) }.Inv :=
  ⟨⟨by decide, by decide⟩, rfl, ⟨by decide, by decide⟩⟩

/-- AnySuppliedMemoryStartsARun: a state with a canonical memory, with and without a listed cell. -/
theorem witness_supplied : State.reset.mem.wf = true ∧ (start 0x0200 [0xEA] []).mem.wf = true := by decide

/-- LoadReplacesExactlyTheImage: refused at one byte too many, accepted at the top, an address below and one above. -/
theorem witness_load : 65536 < (0xFFFF : Word).toNat + [(0x11 : Byte), 0x22].length ∧
    (0xFFFF : Word).toNat + [(0x11 : Byte)].length ≤ 65536 ∧ (0xFFFE : Word).toNat < (0xFFFF : Word).toNat ∧
    (0x0010 : Word).toNat + [(0x11 : Byte)].length ≤ (0x0011 : Word).toNat := by decide

/-- FaultedIsAbsorbing: a schedule with every act but creation, and one in which the host writes no register. -/
theorem witness_faulted :
    HostCall.create ∉ [HostCall.load 0x0200 [0xEA], .poke 0x0010 0x01, .writeRegisters State.reset.registers, .step true] ∧
    { State.reset with engine := .faulted (.illegalOpcode 0x02 0x0000) }.engine = .faulted (.illegalOpcode 0x02 0x0000) := by
  decide

theorem witness_faulted_unwritten :
    HostCall.create ∉ [HostCall.load 0x0200 [0xEA], .poke 0x0010 0x01, .step false] ∧
    ∀ w, HostCall.writeRegisters w ∉ [HostCall.load 0x0200 [0xEA], .poke 0x0010 0x01, .step false] := by simp

/-- R256, D26: the host writes X, PC and a memory cell between steps, and the next step, INX, goes on from there. -/
theorem test_host_writes_registers :
    (runCalls [.writeRegisters { State.reset.registers with x := 0x7E, pc := 0x0200 }, .poke 0x0200 0xE8, .step false]
      State.reset).x = 0x7F := by decide

/-- RunsKeepTheInvariant: steps with either stop level, from a state with the invariant. -/
theorem witness_runs_keep : hostChangesNothing [.step false, .step false, .step true] = true ∧ State.reset.Inv :=
  ⟨rfl, by decide, by decide⟩

/-- StepResultReportsTheStep: a step that ends in READY, and one that does not. -/
theorem witness_step_result :
    step State.reset = .next { State.reset with
      mem := [(0x01FB, 0x34), (0x01FC, 0x02)], sp := 0xFA, pc := 0x0000, cycles := 7 } ∧
    step { State.reset with stop := true } = .next { State.reset with engine := .halted, stop := true } := ⟨rfl, rfl⟩

/-- RunsEndWhereTheySay: a run that is over at the start, one that is not, and one that ends after a step. -/
theorem witness_run_ends : (fun s : State => s.pc == 0x0000) State.reset = true ∧
    { State.reset with engine := .halted }.engine ≠ .ready ∧
    ((fun s : State => s.x == 0x01) (start 0x0200 [0xE8] []) = false ∧ (start 0x0200 [0xE8] []).engine = .ready) ∧
    runUntil (fun s => s.x == 0x01) 1 (start 0x0200 [0xE8] []) =
      .next { start 0x0200 [0xE8] [] with x := 0x01, pc := 0x0201, cycles := 2 } := ⟨rfl, by decide, ⟨rfl, rfl⟩, rfl⟩

/-- RegistersChangeOnlyByTheirWriters: each register changes somewhere. -/
theorem witness_writers :
    exec (.ldaImm 0x01) State.reset = .next { State.reset with a := 0x01, pc := 0x0002, cycles := 2 } ∧
    exec .inx State.reset = .next { State.reset with x := 0x01, pc := 0x0001, cycles := 2 } ∧
    exec .iny State.reset = .next { State.reset with y := 0x01, pc := 0x0001, cycles := 2 } ∧
    exec .txs State.reset = .next { State.reset with sp := 0x00, pc := 0x0001, cycles := 2 } := ⟨rfl, rfl, rfl, rfl⟩

/-- FlagsChangeOnlyByTheirWriters: each flag changes somewhere. -/
theorem witness_flag_writers :
    exec .sec State.reset =
      .next { State.reset with flags := { State.reset.flags with c := true }, pc := 0x0001, cycles := 2 } ∧
    exec .cli State.reset =
      .next { State.reset with flags := { State.reset.flags with i := false }, pc := 0x0001, cycles := 2 } ∧
    exec .sed State.reset =
      .next { State.reset with flags := { State.reset.flags with d := true }, pc := 0x0001, cycles := 2 } ∧
    exec .tax State.reset =
      .next { State.reset with flags := { State.reset.flags with z := true }, pc := 0x0001, cycles := 2 } ∧
    exec (.ldxImm 0x80) State.reset =
      .next { State.reset with x := 0x80, flags := { State.reset.flags with n := true }, pc := 0x0002, cycles := 2 } ∧
    exec .plp State.reset =
      .next { State.reset with flags := { State.reset.flags with b := false, i := false }, sp := 0xFE, pc := 0x0001, cycles := 4 } ∧
    exec .clv { State.reset with flags := { State.reset.flags with v := true } } =
      .next { State.reset with pc := 0x0001, cycles := 2 } := ⟨rfl, rfl, rfl, rfl, rfl, rfl, rfl⟩

/-- InterruptAndDecimalFlagsHaveNoEffect: an instruction other than PHP and BRK. -/
theorem witness_no_effect : Instr.adcImm 0x01 ≠ .php ∧ Instr.adcImm 0x01 ≠ .brk := by decide

end Sys2Proof.Tests.Slice0
end

/-! State facts of 10_state.md: the stack as numbers (R21, R56), creation and supplied memory (R32, R33, R64, R270). -/

namespace Sys2Proof

/-- The little-endian pair as one number, in the spelling of the reset rule (R6, R52). -/
theorem wordOfBytes_eq_ofNat (lo hi : Byte) : wordOfBytes lo hi = BitVec.ofNat 16 (256 * hi.toNat + lo.toNat) := by
  have := lo.isLt; have := hi.isLt
  apply BitVec.eq_of_toNat_eq
  rw [wordOfBytes_toNat, BitVec.toNat_ofNat]
  omega

end Sys2Proof

namespace Sys2Proof.Machine

theorem stackAddr_eq_stackCell (sp : Byte) : stackAddr sp = Claims.stackCell sp := by
  have := sp.isLt
  apply BitVec.eq_of_toNat_eq
  rw [stackAddr_toNat, Claims.stackCell, BitVec.toNat_ofNat]
  omega

/-- S after a push, as a number (R56, D15). -/
theorem sp_sub_one_eq_ofNat (sp : Byte) : sp - 1 = BitVec.ofNat 8 ((sp.toNat + 255) % 256) := by bv_omega

/-- S after a pull, as a number (R56, D15). -/
theorem sp_add_one_eq_ofNat (sp : Byte) : sp + 1 = BitVec.ofNat 8 ((sp.toNat + 1) % 256) := by bv_omega

/-- The bytes of an image that has no more of them than there are cells lie at consecutive addresses (R64). -/
theorem Memory.read_writeImage (m : Memory) (base : Word) (bytes : List Byte)
    (hfit : bytes.length ≤ Config.memorySize) (k : Nat) (hk : k < bytes.length) :
    (m.writeImage base bytes).read (base + BitVec.ofNat 16 k) = bytes[k] := by
  induction bytes generalizing m base k with
  | nil => simp at hk
  | cons v rest ih =>
    have hrest : rest.length + 1 ≤ 65536 := hfit
    cases k with
    | zero =>
      have hfirst : ∀ j < rest.length, base + 1 + BitVec.ofNat 16 j ≠ base := fun j hj => by bv_omega
      have hzero : base + BitVec.ofNat 16 0 = base := BitVec.add_zero base
      rw [hzero, Memory.writeImage, Memory.read_writeImage_other _ _ _ _ hfirst, Memory.read_write_same]
      rfl
    | succ k =>
      have hnext : base + BitVec.ofNat 16 (k + 1) = base + 1 + BitVec.ofNat 16 k := by bv_omega
      rw [hnext]
      exact ih (m.write base v) (base + 1) (Nat.le_of_succ_le hfit) k (Nat.lt_of_succ_lt_succ hk)

/-- An image that fits is loaded (R64). -/
theorem load_of_fits {base : Word} {image : List Byte} (h : base.toNat + image.length ≤ Config.memorySize)
    (s : State) : load base image s = .next { s with mem := s.mem.writeImage base image } := by
  rw [load, if_neg (by omega)]

theorem suppliedImage_length (mem0 : Word → Byte) : (Claims.suppliedImage mem0).length = Config.memorySize := by
  rw [Claims.suppliedImage, List.length_map, List.length_range]

theorem suppliedImage_getElem (mem0 : Word → Byte) (addr : Word)
    (h : addr.toNat < (Claims.suppliedImage mem0).length) : (Claims.suppliedImage mem0)[addr.toNat] = mem0 addr := by
  simp only [Claims.suppliedImage, List.getElem_map, List.getElem_range, BitVec.ofNat_toNat, BitVec.setWidth_eq]

/-- The whole image at address 0 replaces every cell, so what memory held before does not matter (R33, R64). -/
theorem Memory.writeImage_suppliedImage {m : Memory} (hw : m.wf = true) (mem0 : Word → Byte) :
    m.writeImage 0 (Claims.suppliedImage mem0) = Memory.supplied mem0 := by
  refine Memory.eq_of_read_eq (Memory.writeImage_wf m _ _ hw) (Memory.supplied_wf mem0) fun addr => ?_
  have hlen := suppliedImage_length mem0
  have haddr : addr.toNat < (Claims.suppliedImage mem0).length := hlen ▸ addr.isLt
  have hcell := Memory.read_writeImage m 0 _ (Nat.le_of_eq hlen) addr.toNat haddr
  rw [BitVec.ofNat_toNat, BitVec.setWidth_eq, zero_add] at hcell
  rw [hcell, suppliedImage_getElem, Memory.read_supplied]

/-- Loading all 65,536 bytes and creating the Processor State is the reset over those bytes (R64, R270, R271). -/
theorem runCalls_load_create {s : State} (hw : s.mem.wf = true) (mem0 : Word → Byte) :
    runCalls [.load 0 (Claims.suppliedImage mem0), .create] s = State.resetOver mem0 := by
  have hfits : (0 : Word).toNat + (Claims.suppliedImage mem0).length ≤ Config.memorySize := by
    rw [suppliedImage_length]; exact Nat.le_of_eq (Nat.zero_add _)
  simp only [runCalls, hostCall, load_of_fits hfits, Memory.writeImage_suppliedImage hw, State.resetOver]

/-- PC after creation: the pair at the reset vector as a number (R32, R270; D3). -/
theorem Memory.resetPc_eq_ofNat (m : Memory) :
    m.resetPc = BitVec.ofNat 16 (256 * (m.read 0xFFFD).toNat + (m.read 0xFFFC).toNat) :=
  wordOfBytes_eq_ofNat _ _

/-- Settles O11: each clause is one fact about the stack cell or about S modulo 256. -/
theorem pullReturnsWhatPushStored : Obligations.PullReturnsWhatPushStored := by
  unfold Obligations.PullReturnsWhatPushStored
  intro s v
  refine ⟨stackAddr_toNat s.sp, ?_, State.top_push s v, State.popped_push_sp s v, ?_, ?_⟩
  · rw [State.push, stackAddr_eq_stackCell, sp_sub_one_eq_ofNat]
  · rw [State.popped_sp, sp_add_one_eq_ofNat]
  · rw [State.top, stackAddr_eq_stackCell]

/-- Settles O58: a supplied memory reads as `mem0`, and a load of all its bytes makes it over any canonical memory. -/
theorem anySuppliedMemoryStartsARun : Obligations.AnySuppliedMemoryStartsARun := by
  unfold Obligations.AnySuppliedMemoryStartsARun
  intro mem0
  refine ⟨Memory.read_supplied mem0, ?_, fun s hw => runCalls_load_create hw mem0⟩
  rw [State.resetOver_pc, wordOfBytes_eq_ofNat]

/-- Settles O48: PC is the only field that creation computes from memory. -/
theorem creationGivesTheResetValues : Obligations.CreationGivesTheResetValues := by
  unfold Obligations.CreationGivesTheResetValues
  intro m
  refine ⟨?_, rfl⟩
  rw [State.create, Memory.resetPc_eq_ofNat]
  rfl

end Sys2Proof.Machine

/-! Who writes the registers and flags (R20, R21, R23): what each shared operation can change, then each instruction. -/

namespace Sys2Proof.Machine

/-- The registers and flags that have a list of writers in 10_state.md. -/
inductive RegOrFlag where
  | a | x | y | sp | c | z | n | i | d | b | v

/-- The register or flag has another value in `t` than in `s`. -/
def RegOrFlag.changed (s t : State) : RegOrFlag → Prop
  | .a => t.a ≠ s.a
  | .x => t.x ≠ s.x
  | .y => t.y ≠ s.y
  | .sp => t.sp ≠ s.sp
  | .c => t.flags.c ≠ s.flags.c
  | .z => t.flags.z ≠ s.flags.z
  | .n => t.flags.n ≠ s.flags.n
  | .i => t.flags.i ≠ s.flags.i
  | .d => t.flags.d ≠ s.flags.d
  | .b => t.flags.b ≠ s.flags.b
  | .v => t.flags.v ≠ s.flags.v

/-- The registry entry is among its writers in the tables of R20 and R23 and the list of R21. -/
def RegOrFlag.writtenBy (e : Descriptor) : RegOrFlag → Bool
  | .a => e.mnemonic ∈ ["ADC", "SBC", "AND", "ORA", "EOR", "LDA", "TXA", "TYA", "PLA"] ∨
      e.mnemonic ∈ ["ASL", "LSR", "ROL", "ROR"] ∧ e.mode = .accumulator
  | .x => e.mnemonic ∈ ["LDX", "TAX", "TSX", "INX", "DEX"]
  | .y => e.mnemonic ∈ ["LDY", "TAY", "INY", "DEY"]
  | .sp => e.mnemonic ∈ ["TXS", "PHA", "PHP", "JSR", "BRK", "PLA", "PLP", "RTS", "RTI"]
  | .c => e.mnemonic ∈ ["ADC", "SBC", "ASL", "LSR", "ROL", "ROR", "CMP", "CPX", "CPY", "CLC", "SEC", "PLP", "RTI"]
  | .z | .n => e.mnemonic ∈
      ["ADC", "SBC", "AND", "ORA", "EOR", "BIT", "ASL", "LSR", "ROL", "ROR", "CMP", "CPX", "CPY", "INC", "DEC"] ++
        ["INX", "DEX", "INY", "DEY", "LDA", "LDX", "LDY", "TAX", "TXA", "TAY", "TYA", "TSX", "PLA", "PLP", "RTI"]
  | .i => e.mnemonic ∈ ["SEI", "CLI", "BRK", "PLP", "RTI"]
  | .d => e.mnemonic ∈ ["SED", "CLD", "PLP", "RTI"]
  | .b => e.mnemonic ∈ ["PLP", "RTI"]
  | .v => e.mnemonic ∈ ["ADC", "SBC", "BIT", "CLV", "PLP", "RTI"]

/-- From `s` to `t` no register or flag changes but those of `w`. -/
def WritesOnly (w : List RegOrFlag) (s t : State) : Prop := ∀ p : RegOrFlag, p.changed s t → p ∈ w

theorem RegOrFlag.changed_or_changed {s u t : State} {p : RegOrFlag} (h : p.changed s t) :
    p.changed s u ∨ p.changed u t := by
  refine Or.symm ?_
  cases p <;> exact (Ne.ne_or_ne _ h).imp_right Ne.symm

theorem WritesOnly.refl (s : State) : WritesOnly [] s s := by
  intro p hp; cases p <;> exact absurd rfl hp

theorem WritesOnly.trans {w w' : List RegOrFlag} {s u t : State} (h : WritesOnly w s u) (h' : WritesOnly w' u t) :
    WritesOnly (w ++ w') s t :=
  fun p hp => List.mem_append.mpr ((RegOrFlag.changed_or_changed hp).imp (h p) (h' p))

/-! What each shared operation writes. -/

theorem advance_writesOnly (s : State) (length n : Nat) : WritesOnly [] s (s.advance length n) := by
  intro p hp; cases p <;> simp_all [RegOrFlag.changed]

theorem setPc_writesOnly (s : State) (w : Word) : WritesOnly [] s { s with pc := w } := by
  intro p hp; cases p <;> simp_all [RegOrFlag.changed]

theorem write_writesOnly (s : State) (addr : Word) (r : Byte) : WritesOnly [] s (s.write addr r) := by
  intro p hp; cases p <;> simp_all [RegOrFlag.changed]

theorem raiseIllegal_writesOnly (s : State) (op : Byte) : WritesOnly [] s (s.raiseIllegal op) := by
  intro p hp; cases p <;> simp_all [RegOrFlag.changed]

theorem loadA_writesOnly (s : State) (r : Byte) : WritesOnly [.a, .z, .n] s (s.loadA r) := by
  intro p hp; cases p <;> simp_all [RegOrFlag.changed]

theorem loadX_writesOnly (s : State) (r : Byte) : WritesOnly [.x, .z, .n] s (s.loadX r) := by
  intro p hp; cases p <;> simp_all [RegOrFlag.changed]

theorem loadY_writesOnly (s : State) (r : Byte) : WritesOnly [.y, .z, .n] s (s.loadY r) := by
  intro p hp; cases p <;> simp_all [RegOrFlag.changed]

theorem addToA_writesOnly (s : State) (m : Byte) : WritesOnly [.a, .c, .z, .n, .v] s (s.addToA m) := by
  intro p hp; cases p <;> simp_all [RegOrFlag.changed, Flags.afterAdd]

theorem compare_writesOnly (s : State) (r m : Byte) : WritesOnly [.c, .z, .n] s (s.compare r m) := by
  intro p hp; cases p <;> simp_all [RegOrFlag.changed, Flags.afterCompare]

theorem opBit_writesOnly (s : State) (m : Byte) : WritesOnly [.z, .n, .v] s (opBit s m) := by
  intro p hp; cases p <;> simp_all [RegOrFlag.changed, opBit, Flags.afterBit]

theorem storeCell_writesOnly (s : State) (addr : Word) (r : Byte) : WritesOnly [.z, .n] s (s.storeCell addr r) := by
  intro p hp; cases p <;> simp_all [RegOrFlag.changed]

theorem shiftA_writesOnly (s : State) (f : Shift) : WritesOnly [.a, .c, .z, .n] s (s.shiftA f) := by
  intro p hp; cases p <;> simp_all [RegOrFlag.changed, Flags.afterShift]

theorem shiftCell_writesOnly (s : State) (f : Shift) (addr : Word) :
    WritesOnly [.c, .z, .n] s (s.shiftCell f addr) := by
  intro p hp; cases p <;> simp_all [RegOrFlag.changed, Flags.afterShift]

theorem push_writesOnly (s : State) (r : Byte) : WritesOnly [.sp] s (s.push r) := by
  intro p hp; cases p <;> simp_all [RegOrFlag.changed]

theorem pushWord_writesOnly (s : State) (w : Word) : WritesOnly [.sp] s (s.pushWord w) := by
  intro p hp; cases p <;> simp_all [RegOrFlag.changed]

theorem popped_writesOnly (s : State) : WritesOnly [.sp] s s.popped := by
  intro p hp; cases p <;> simp_all [RegOrFlag.changed]

theorem setSp_writesOnly (s : State) (r : Byte) : WritesOnly [.sp] s { s with sp := r } := by
  intro p hp; cases p <;> simp_all [RegOrFlag.changed]

theorem setFlags_writesOnly (s : State) (f : Flags) :
    WritesOnly [.c, .z, .n, .i, .d, .b, .v] s { s with flags := f } := by
  intro p hp; cases p <;> simp_all [RegOrFlag.changed]

theorem setC_writesOnly (s : State) (b : Bool) : WritesOnly [.c] s { s with flags := { s.flags with c := b } } := by
  intro p hp; cases p <;> simp_all [RegOrFlag.changed]

theorem setI_writesOnly (s : State) (b : Bool) : WritesOnly [.i] s { s with flags := { s.flags with i := b } } := by
  intro p hp; cases p <;> simp_all [RegOrFlag.changed]

theorem setD_writesOnly (s : State) (b : Bool) : WritesOnly [.d] s { s with flags := { s.flags with d := b } } := by
  intro p hp; cases p <;> simp_all [RegOrFlag.changed]

theorem setV_writesOnly (s : State) (b : Bool) : WritesOnly [.v] s { s with flags := { s.flags with v := b } } := by
  intro p hp; cases p <;> simp_all [RegOrFlag.changed]

theorem enterBreak_writesOnly (s : State) (pc0 : Word) : WritesOnly [.sp, .i] s (s.enterBreak pc0) := by
  intro p hp; cases p <;> simp_all [RegOrFlag.changed]

theorem returnFromBreak_writesOnly (s : State) :
    WritesOnly [.sp, .c, .z, .n, .i, .d, .b, .v] s s.returnFromBreak := by
  intro p hp; cases p <;> simp_all [RegOrFlag.changed]

/-! What each class of R114 writes: what its operation writes. -/

section
variable {w : List RegOrFlag} {n : Nat} {m : AddrMode} {s t : State}

theorem next_writesOnly {u : State} (h : (.next u : Answer) = .next t) (hu : WritesOnly w s u) : WritesOnly w s t := by
  injection h with h; exact h ▸ hu

theorem withImmediate_writesOnly {op : State → Byte → State} {v : Byte} (h : withImmediate op n v s = .next t)
    (hop : ∀ s v, WritesOnly w s (op s v)) : WritesOnly w s t :=
  withImmediate_next h ▸ (advance_writesOnly s _ _).trans (hop _ _)

theorem withOperand_writesOnly {op : State → Byte → State} (h : withOperand op n m s = .next t)
    (hop : ∀ s v, WritesOnly w s (op s v)) : WritesOnly w s t :=
  withOperand_next h ▸ (advance_writesOnly s _ _).trans (hop _ _)

theorem withCell_writesOnly {op : State → Word → State} (h : withCell op n m s = .next t)
    (hop : ∀ s addr, WritesOnly w s (op s addr)) : WritesOnly w s t :=
  withCell_next h ▸ (advance_writesOnly s _ _).trans (hop _ _)

theorem implied_writesOnly {op : State → State} (h : implied op n s = .next t) (hop : ∀ s, WritesOnly w s (op s)) :
    WritesOnly w s t :=
  implied_next h ▸ (advance_writesOnly s _ _).trans (hop _)

theorem withStore_writesOnly {v : Byte} (h : withStore v n m s = .next t) : WritesOnly [] s t :=
  withStore_next h ▸ (advance_writesOnly s _ _).trans (write_writesOnly _ _ _)

theorem branch_writesOnly {cond : Bool} {off : Byte} (h : branch cond off s = .next t) : WritesOnly [] s t :=
  next_writesOnly h ((advance_writesOnly s _ _).trans (setPc_writesOnly _ _))

end

/-- What an instruction may write, and the registry entry of its opcode byte, give the entry of every change. -/
theorem writtenBy_of_writesOnly {i : Instr} {s t : State} {w : List RegOrFlag} {op : Byte} {rest : List Byte}
    (hw : WritesOnly w s t) (he : encode i = op :: rest) (hop : ∀ p ∈ w, p.writtenBy (registry op) = true) :
    ∀ p : RegOrFlag, p.changed s t → p.writtenBy (Claims.entryOf i) = true := by
  intro p hp
  rw [Claims.entryOf, he]
  exact hop p (hw p hp)

theorem writtenBy_of_writesNothing {i : Instr} {s t : State} (hw : WritesOnly [] s t) :
    ∀ p : RegOrFlag, p.changed s t → p.writtenBy (Claims.entryOf i) = true :=
  fun p hp => absurd (hw p hp) List.not_mem_nil

/-- Each instruction changes what its class and its shared operation write, and its entry is listed for all of that. -/
theorem exec_writtenBy {i : Instr} {s t : State} (h : exec i s = .next t) :
    ∀ p : RegOrFlag, p.changed s t → p.writtenBy (Claims.entryOf i) = true := by
  unfold exec at h
  cases i with
  | adcImm | sbcImm =>
    exact writtenBy_of_writesOnly (withImmediate_writesOnly h fun _ _ => addToA_writesOnly _ _) rfl (by decide)
  | adcZp | adcZpX | adcAbs | adcAbsX | adcAbsY | adcIndX | adcIndY
  | sbcZp | sbcZpX | sbcAbs | sbcAbsX | sbcAbsY | sbcIndX | sbcIndY =>
    exact writtenBy_of_writesOnly (withOperand_writesOnly h fun _ _ => addToA_writesOnly _ _) rfl (by decide)
  | andImm | oraImm | eorImm | ldaImm =>
    exact writtenBy_of_writesOnly (withImmediate_writesOnly h fun _ _ => loadA_writesOnly _ _) rfl (by decide)
  | andZp | andZpX | andAbs | andAbsX | andAbsY | andIndX | andIndY
  | oraZp | oraZpX | oraAbs | oraAbsX | oraAbsY | oraIndX | oraIndY
  | eorZp | eorZpX | eorAbs | eorAbsX | eorAbsY | eorIndX | eorIndY
  | ldaZp | ldaZpX | ldaAbs | ldaAbsX | ldaAbsY | ldaIndX | ldaIndY =>
    exact writtenBy_of_writesOnly (withOperand_writesOnly h fun _ _ => loadA_writesOnly _ _) rfl (by decide)
  | ldxImm => exact writtenBy_of_writesOnly (withImmediate_writesOnly h loadX_writesOnly) rfl (by decide)
  | ldxZp | ldxZpY | ldxAbs | ldxAbsY =>
    exact writtenBy_of_writesOnly (withOperand_writesOnly h loadX_writesOnly) rfl (by decide)
  | ldyImm => exact writtenBy_of_writesOnly (withImmediate_writesOnly h loadY_writesOnly) rfl (by decide)
  | ldyZp | ldyZpX | ldyAbs | ldyAbsX =>
    exact writtenBy_of_writesOnly (withOperand_writesOnly h loadY_writesOnly) rfl (by decide)
  | cmpImm | cpxImm | cpyImm =>
    exact writtenBy_of_writesOnly (withImmediate_writesOnly h fun _ _ => compare_writesOnly _ _ _) rfl (by decide)
  | cmpZp | cmpZpX | cmpAbs | cmpAbsX | cmpAbsY | cmpIndX | cmpIndY | cpxZp | cpxAbs | cpyZp | cpyAbs =>
    exact writtenBy_of_writesOnly (withOperand_writesOnly h fun _ _ => compare_writesOnly _ _ _) rfl (by decide)
  | bitZp | bitAbs => exact writtenBy_of_writesOnly (withOperand_writesOnly h opBit_writesOnly) rfl (by decide)
  | aslAcc | lsrAcc | rolAcc | rorAcc =>
    exact writtenBy_of_writesOnly (implied_writesOnly h fun _ => shiftA_writesOnly _ _) rfl (by decide)
  | aslZp | aslZpX | aslAbs | aslAbsX | lsrZp | lsrZpX | lsrAbs | lsrAbsX
  | rolZp | rolZpX | rolAbs | rolAbsX | rorZp | rorZpX | rorAbs | rorAbsX =>
    exact writtenBy_of_writesOnly (withCell_writesOnly h fun _ _ => shiftCell_writesOnly _ _ _) rfl (by decide)
  | incZp | incZpX | incAbs | incAbsX | decZp | decZpX | decAbs | decAbsX =>
    exact writtenBy_of_writesOnly (withCell_writesOnly h fun _ _ => storeCell_writesOnly _ _ _) rfl (by decide)
  | staZp | staZpX | staAbs | staAbsX | staAbsY | staIndX | staIndY
  | stxZp | stxZpY | stxAbs | styZp | styZpX | styAbs =>
    exact writtenBy_of_writesNothing (withStore_writesOnly h)
  | inx | dex | tax | tsx =>
    exact writtenBy_of_writesOnly (implied_writesOnly h fun _ => loadX_writesOnly _ _) rfl (by decide)
  | iny | dey | tay =>
    exact writtenBy_of_writesOnly (implied_writesOnly h fun _ => loadY_writesOnly _ _) rfl (by decide)
  | txa | tya => exact writtenBy_of_writesOnly (implied_writesOnly h fun _ => loadA_writesOnly _ _) rfl (by decide)
  | txs => exact writtenBy_of_writesOnly (implied_writesOnly h fun _ => setSp_writesOnly _ _) rfl (by decide)
  | pha | php => exact writtenBy_of_writesOnly (implied_writesOnly h fun _ => push_writesOnly _ _) rfl (by decide)
  | pla =>
    exact writtenBy_of_writesOnly
      (implied_writesOnly h fun s => (popped_writesOnly s).trans (loadA_writesOnly _ _)) rfl (by decide)
  | plp =>
    exact writtenBy_of_writesOnly
      (implied_writesOnly h fun s => (popped_writesOnly s).trans (setFlags_writesOnly _ _)) rfl (by decide)
  | bcc | bcs | beq | bne | bpl | bmi | bvc | bvs => exact writtenBy_of_writesNothing (branch_writesOnly h)
  | jmpAbs | jmpInd =>
    exact writtenBy_of_writesNothing (next_writesOnly h ((advance_writesOnly s _ _).trans (setPc_writesOnly _ _)))
  | jsr => exact writtenBy_of_writesOnly (next_writesOnly h ((advance_writesOnly s _ _).trans
      ((pushWord_writesOnly _ _).trans (setPc_writesOnly _ _)))) rfl (by decide)
  | rts => exact writtenBy_of_writesOnly (implied_writesOnly h fun s =>
      ((popped_writesOnly s).trans (popped_writesOnly _)).trans (setPc_writesOnly _ _)) rfl (by decide)
  | brk =>
    exact writtenBy_of_writesOnly
      (next_writesOnly h ((advance_writesOnly s _ _).trans (enterBreak_writesOnly _ _))) rfl (by decide)
  | rti => exact writtenBy_of_writesOnly (implied_writesOnly h returnFromBreak_writesOnly) rfl (by decide)
  | clc | sec => exact writtenBy_of_writesOnly (implied_writesOnly h fun _ => setC_writesOnly _ _) rfl (by decide)
  | cli | sei => exact writtenBy_of_writesOnly (implied_writesOnly h fun _ => setI_writesOnly _ _) rfl (by decide)
  | clv => exact writtenBy_of_writesOnly (implied_writesOnly h fun _ => setV_writesOnly _ _) rfl (by decide)
  | cld | sed => exact writtenBy_of_writesOnly (implied_writesOnly h fun _ => setD_writesOnly _ _) rfl (by decide)
  | nop => exact writtenBy_of_writesNothing (implied_writesOnly h WritesOnly.refl)
  | illegal => exact writtenBy_of_writesNothing (next_writesOnly h (raiseIllegal_writesOnly s _))

/-- Settles O53: every change of A, X, Y or S in an instruction is by a listed writer. -/
theorem registersChangeOnlyByTheirWriters : Obligations.RegistersChangeOnlyByTheirWriters := by
  unfold Obligations.RegistersChangeOnlyByTheirWriters
  intro i s t _ h
  have hw := exec_writtenBy h
  exact ⟨fun hp => of_decide_eq_true (hw .a hp), fun hp => of_decide_eq_true (hw .x hp),
    fun hp => of_decide_eq_true (hw .y hp), fun hp => of_decide_eq_true (hw .sp hp)⟩

/-- Settles O54: every change of a flag in an instruction is by a listed writer; Z and N share one list. -/
theorem flagsChangeOnlyByTheirWriters : Obligations.FlagsChangeOnlyByTheirWriters := by
  unfold Obligations.FlagsChangeOnlyByTheirWriters
  intro i s t _ h
  have hw := exec_writtenBy h
  exact ⟨fun hp => of_decide_eq_true (hw .c hp), fun hp => of_decide_eq_true (hp.elim (hw .z) (hw .n)),
    fun hp => of_decide_eq_true (hw .i hp), fun hp => of_decide_eq_true (hw .d hp),
    fun hp => of_decide_eq_true (hw .b hp), fun hp => of_decide_eq_true (hw .v hp)⟩

end Sys2Proof.Machine

/-! Memory (20_memory.md): one cell written, an image loaded, the round trips of the stack, and the cells that each
instruction stores to. -/

namespace Sys2Proof.Machine

/-! Writes and images. -/

/-- In the canonical form a write of the held byte gives the same list (R54, log 2). -/
theorem Memory.write_read_self {m : Memory} (hw : m.wf = true) (addr : Word) : m.write addr (m.read addr) = m := by
  refine Memory.eq_of_read_eq (Memory.write_wf m addr _ hw) hw fun other => ?_
  rw [Memory.read_write]
  split
  · rename_i he; rw [he]
  · rfl

/-- An image that does not fit is refused (R243). -/
theorem load_of_not_fits {base : Word} {image : List Byte} (h : Config.memorySize < base.toNat + image.length)
    (s : State) : load base image s = .refused .invalidLoadRequest := by
  rw [load, if_pos (.inr h)]

/-- Outside an image that fits memory reads as before: the image does not wrap (R64). -/
theorem Memory.read_writeImage_outside (m : Memory) {base : Word} {image : List Byte}
    (hfit : base.toNat + image.length ≤ Config.memorySize) {addr : Word}
    (h : addr.toNat < base.toNat ∨ base.toNat + image.length ≤ addr.toNat) :
    (m.writeImage base image).read addr = m.read addr := by
  have hfit' : base.toNat + image.length ≤ 65536 := hfit
  exact Memory.read_writeImage_other m base image addr fun k hk => by bv_omega

/-- Settles O9: the two read laws of a write; the update of `State.write` names no field but memory. -/
theorem memoryWriteReplacesOneCell : Obligations.MemoryWriteReplacesOneCell := by
  unfold Obligations.MemoryWriteReplacesOneCell
  intro s addr v
  exact ⟨Memory.read_write_same s.mem addr v, fun _ hne => Memory.read_write_other s.mem v hne.symm, rfl⟩

/-- Settles O10: memory in canonical form is determined by what it reads as. -/
theorem rewritingAHeldByteChangesNothing : Obligations.RewritingAHeldByteChangesNothing := by
  unfold Obligations.RewritingAHeldByteChangesNothing
  intro s addr hw
  rw [State.write, State.read, Memory.write_read_self hw]

/-- Settles O49: the two cases of `load`, split by whether the image fits. -/
theorem loadReplacesExactlyTheImage : Obligations.LoadReplacesExactlyTheImage := by
  unfold Obligations.LoadReplacesExactlyTheImage
  intro base image s
  refine ⟨fun h => load_of_not_fits h s, fun h => ⟨_, load_of_fits h s, rfl, fun k hk => ?_, fun addr ha => ?_⟩⟩
  · exact Memory.read_writeImage s.mem base image (Nat.le_of_add_left_le h) k hk
  · exact Memory.read_writeImage_outside s.mem h ha

/-! A store is seen by the next fetch. -/

/-- A byte written at PC is the opcode byte of the next fetch; the two bytes after it are as before (R62). -/
theorem State.fetch_write_pc (s : State) (v : Byte) :
    (s.write s.pc v).fetch = decodeAt v (s.read (s.pc + 1)) (s.read (s.pc + 2)) := by
  obtain ⟨h1, h2, -⟩ := Word.add_distinct s.pc
  rw [State.fetch, State.write_pc, State.read_write, State.read_write, State.read_write,
    if_pos rfl, if_neg h1, if_neg h2]

/-- Settles O8: after its advance STA Absolute writes A at the new PC. -/
theorem storeIsSeenByTheNextFetch : Obligations.StoreIsSeenByTheNextFetch := by
  unfold Obligations.StoreIsSeenByTheNextFetch
  intro s
  refine ⟨(s.advance 3 4).write (s.advance 3 4).pc s.a, rfl, rfl, ?_⟩
  have hpc : (s.advance 3 4).pc = s.pc + 3 := rfl
  have h4 : s.pc + 3 + 1 = s.pc + 4 := by bv_omega
  have h5 : s.pc + 3 + 2 = s.pc + 5 := by bv_omega
  rw [State.fetch_write_pc, hpc, State.read_advance, State.read_advance, h4, h5]

/-! Round trips on the stack. -/

/-- PHP after PLP pushes the pulled byte with bit 5 set (R24; D1, D2, D5). -/
theorem Flags.pack_unpack (v : Byte) : (Flags.unpack v).pack (Flags.unpack v).b = v ||| 0x20 := by
  revert v; decide

/-- The cell that S designates before a push reads as the pushed byte after it (R56). -/
theorem State.read_push (s : State) (v : Byte) : (s.push v).read (stackAddr s.sp) = v :=
  Memory.read_write_same s.mem _ v

/-- Settles O31: a pull returns what the push before it stored, and a pushed flags byte unpacks to the flags. -/
theorem stackRoundTrips : Obligations.StackRoundTrips := by
  unfold Obligations.StackRoundTrips
  intro s
  refine ⟨⟨_, _, rfl, rfl, State.top_push _ _, State.popped_push_sp (s.advance 1 3) s.a⟩,
    ⟨_, _, rfl, rfl, ?_, State.popped_push_sp (s.advance 1 3) (s.flags.pack s.flags.b)⟩,
    ⟨_, _, rfl, rfl, BitVec.add_sub_cancel s.sp 1, ?_⟩⟩
  · exact (congrArg Flags.unpack (State.top_push _ _)).trans (Flags.unpack_pack s.flags _)
  · rw [← stackAddr_eq_stackCell]
    exact (State.read_push _ _).trans (Flags.pack_unpack _)

/-! Which cells an instruction stores to: what each shared operation stores, then each instruction. -/

/-- From `s` to `t` no cell but those of `cells` changes, and memory is the same one when there are none. -/
def StoresOnly (cells : List Word) (s t : State) : Prop :=
  (∀ addr, addr ∉ cells → t.read addr = s.read addr) ∧ (cells = [] → t.mem = s.mem)

theorem StoresOnly.of_mem_eq {s t : State} (h : t.mem = s.mem) : StoresOnly [] s t :=
  ⟨fun addr _ => State.read_congr h addr, fun _ => h⟩

theorem StoresOnly.of_mem_write {s t : State} {addr : Word} {v : Byte} (h : t.mem = s.mem.write addr v) :
    StoresOnly [addr] s t := by
  refine ⟨fun other ho => ?_, fun hc => absurd hc (List.cons_ne_nil _ _)⟩
  rw [State.read, h]
  exact Memory.read_write_other s.mem v (List.ne_of_not_mem_cons ho).symm

theorem StoresOnly.trans {cells cells' : List Word} {s u t : State} (h : StoresOnly cells s u)
    (h' : StoresOnly cells' u t) : StoresOnly (cells ++ cells') s t := by
  obtain ⟨hread, hmem⟩ := h
  obtain ⟨hread', hmem'⟩ := h'
  refine ⟨fun addr ha => ?_, fun hc => ?_⟩
  · obtain ⟨hl, hr⟩ := not_or.mp (mt List.mem_append.mpr ha)
    exact (hread' addr hr).trans (hread addr hl)
  · obtain ⟨hl, hr⟩ := List.append_eq_nil_iff.mp hc
    exact (hmem' hr).trans (hmem hl)

theorem push_storesOnly (s : State) (v : Byte) : StoresOnly [stackAddr s.sp] s (s.push v) :=
  .of_mem_write (State.push_mem s v)

theorem pushWord_storesOnly (s : State) (w : Word) :
    StoresOnly [stackAddr s.sp, stackAddr (s.sp - 1)] s (s.pushWord w) :=
  (push_storesOnly s (hiByte w)).trans (push_storesOnly (s.push (hiByte w)) (loByte w))

/-- BRK stores to three stack cells: the two of the return address, then the one of the flags byte (R220). -/
theorem enterBreak_storesOnly (s : State) (pc0 : Word) :
    StoresOnly [stackAddr s.sp, stackAddr (s.sp - 1), stackAddr (s.sp - 2)] s (s.enterBreak pc0) := by
  have hflags := push_storesOnly (s.pushWord (pc0 + 2)) (s.flags.pack true)
  rw [State.pushWord_sp, Byte.sub_one_sub_one] at hflags
  exact ((pushWord_storesOnly s _).trans hflags).trans (.of_mem_eq (State.enterBreak_mem s pc0))

theorem withImmediate_storesNothing {op : State → Byte → State} {n : Nat} {v : Byte} {s : State}
    (hop : ∀ s v, (op s v).mem = s.mem) : ∃ t, withImmediate op n v s = .next t ∧ StoresOnly [] s t :=
  ⟨_, rfl, .of_mem_eq (hop _ _)⟩

theorem withOperand_storesNothing {op : State → Byte → State} {n : Nat} {m : AddrMode} {s : State}
    (hop : ∀ s v, (op s v).mem = s.mem) : ∃ t, withOperand op n m s = .next t ∧ StoresOnly [] s t :=
  ⟨_, rfl, .of_mem_eq (hop _ _)⟩

theorem implied_storesNothing {op : State → State} {n : Nat} {s : State} (hop : ∀ s, (op s).mem = s.mem) :
    ∃ t, implied op n s = .next t ∧ StoresOnly [] s t :=
  ⟨_, rfl, .of_mem_eq (hop _)⟩

theorem branch_storesNothing (cond : Bool) (off : Byte) (s : State) :
    ∃ t, branch cond off s = .next t ∧ StoresOnly [] s t :=
  ⟨_, rfl, .of_mem_eq rfl⟩

/-- A store writes the one cell at the effective address (R114). -/
theorem withStore_storesOnly (v : Byte) (n : Nat) (m : AddrMode) (s : State) :
    ∃ t, withStore v n m s = .next t ∧ StoresOnly [m.ea s] s t :=
  ⟨_, rfl, .of_mem_write rfl⟩

/-- A read-modify-write writes the one cell at the effective address (R114). -/
theorem withCell_storesOnly {op : State → Word → State} {n : Nat} {m : AddrMode} {s : State}
    (hop : ∀ s addr, StoresOnly [addr] s (op s addr)) : ∃ t, withCell op n m s = .next t ∧ StoresOnly [m.ea s] s t :=
  ⟨_, rfl, (StoresOnly.of_mem_eq rfl).trans (hop (s.advance _ _) _)⟩

/-- Every instruction completes, and its class and its shared operation store only to the cells of its form. -/
theorem exec_storesOnly (i : Instr) (s : State) :
    ∃ t, exec i s = .next t ∧ StoresOnly (Claims.storedCells i s) s t := by
  unfold exec
  cases i with
  | adcImm | sbcImm | andImm | oraImm | eorImm | cmpImm | cpxImm | cpyImm | ldaImm | ldxImm | ldyImm =>
    exact withImmediate_storesNothing fun _ _ => rfl
  | adcZp | adcZpX | adcAbs | adcAbsX | adcAbsY | adcIndX | adcIndY
  | sbcZp | sbcZpX | sbcAbs | sbcAbsX | sbcAbsY | sbcIndX | sbcIndY
  | andZp | andZpX | andAbs | andAbsX | andAbsY | andIndX | andIndY
  | oraZp | oraZpX | oraAbs | oraAbsX | oraAbsY | oraIndX | oraIndY
  | eorZp | eorZpX | eorAbs | eorAbsX | eorAbsY | eorIndX | eorIndY | bitZp | bitAbs
  | cmpZp | cmpZpX | cmpAbs | cmpAbsX | cmpAbsY | cmpIndX | cmpIndY | cpxZp | cpxAbs | cpyZp | cpyAbs
  | ldaZp | ldaZpX | ldaAbs | ldaAbsX | ldaAbsY | ldaIndX | ldaIndY
  | ldxZp | ldxZpY | ldxAbs | ldxAbsY | ldyZp | ldyZpX | ldyAbs | ldyAbsX =>
    exact withOperand_storesNothing fun _ _ => rfl
  | aslAcc | lsrAcc | rolAcc | rorAcc | inx | dex | iny | dey | tax | txa | tay | tya | tsx | txs | pla | plp
  | rts | rti | clc | sec | cli | sei | clv | cld | sed | nop =>
    exact implied_storesNothing fun _ => rfl
  | bcc | bcs | beq | bne | bpl | bmi | bvc | bvs => exact branch_storesNothing _ _ s
  | jmpAbs | jmpInd | illegal => exact ⟨_, rfl, .of_mem_eq rfl⟩
  | staZp | staZpX | staAbs | staAbsX | staAbsY | staIndX | staIndY
  | stxZp | stxZpY | stxAbs | styZp | styZpX | styAbs =>
    exact withStore_storesOnly _ _ _ s
  | aslZp | aslZpX | aslAbs | aslAbsX | lsrZp | lsrZpX | lsrAbs | lsrAbsX
  | rolZp | rolZpX | rolAbs | rolAbsX | rorZp | rorZpX | rorAbs | rorAbsX =>
    exact withCell_storesOnly fun s addr => .of_mem_write (State.shiftCell_mem s _ addr)
  | incZp | incZpX | incAbs | incAbsX | decZp | decZpX | decAbs | decAbsX =>
    exact withCell_storesOnly fun s addr => .of_mem_write (State.storeCell_mem s addr _)
  | pha | php => exact ⟨_, rfl, push_storesOnly (s.advance 1 3) _⟩
  | jsr => exact ⟨_, rfl, pushWord_storesOnly (s.advance 3 6) _⟩
  | brk => exact ⟨_, rfl, enterBreak_storesOnly (s.advance 1 7) s.pc⟩

/-- Settles O27: the stored cells of every form, said of each address. -/
theorem onlyTheStoredCellsChange : Obligations.OnlyTheStoredCellsChange := exec_storesOnly

end Sys2Proof.Machine

/-! Encoding (30_encoding.md): the encoder's table, the round trips of encoder and decoder, and which bytes execute. -/

namespace Sys2Proof

/-- Settles O1: the round trip of each shape of row (no operand, one operand byte, two), and of the 105 illegal bytes. -/
theorem decodeOfEncodeIsTheInstruction : Obligations.DecodeOfEncodeIsTheInstruction := by
  unfold Obligations.DecodeOfEncodeIsTheInstruction
  intro i
  cases i with
  | aslAcc | lsrAcc | rolAcc | rorAcc | inx | dex | iny | dey | tax | txa | tay | tya | tsx | txs | pha | pla | php | plp
  | rts | brk | rti | clc | sec | cli | sei | clv | cld | sed | nop =>
    exact Laws.RoundTrip.of_noOperand rfl rfl
  | adcAbs | adcAbsX | adcAbsY | sbcAbs | sbcAbsX | sbcAbsY | andAbs | andAbsX | andAbsY | oraAbs | oraAbsX | oraAbsY
  | eorAbs | eorAbsX | eorAbsY | bitAbs | aslAbs | aslAbsX | lsrAbs | lsrAbsX | rolAbs | rolAbsX | rorAbs | rorAbsX
  | cmpAbs | cmpAbsX | cmpAbsY | cpxAbs | cpyAbs | incAbs | incAbsX | decAbs | decAbsX | ldaAbs | ldaAbsX | ldaAbsY
  | ldxAbs | ldxAbsY | ldyAbs | ldyAbsX | staAbs | staAbsX | staAbsY | stxAbs | styAbs | jmpAbs | jmpInd | jsr =>
    exact Laws.RoundTrip.of_operand16 rfl rfl
  | illegal op => exact Laws.RoundTrip.illegal op
  | _ => exact Laws.RoundTrip.of_operand8 rfl rfl

/-- The operand bytes that the encoder writes for what a `Build` makes of `b1` and `b2` (R81, R82). -/
def Build.operands : Build → Byte → Byte → List Byte
  | .noOperand _, _, _ => []
  | .operand8 _, b1, _ => [b1]
  | .operand16 _, b1, b2 => wordBytes (wordOfBytes b1 b2)

/-- The operand bytes are the bytes after the opcode, as many as the `Build` consumes. -/
theorem Build.operands_eq_take (b : Build) (b1 b2 : Byte) : b.operands b1 b2 = [b1, b2].take b.arity := by
  cases b with
  | noOperand | operand8 => rfl
  | operand16 => simp [Build.operands, Build.arity, wordBytes]

/-- Registry and encoder are two tables of R84: in each of the 256 entries they name one opcode byte, whatever the
operand bytes are. -/
theorem decodeAt_wf_and_encode (op b1 b2 : Byte) : (decodeAt op b1 b2).wf = true ∧
    encode (decodeAt op b1 b2) = op :: (registry op).build.operands b1 b2 := by
  obtain ⟨n, hn, rfl⟩ : ∃ n < 256, op = BitVec.ofNat 8 n := ⟨op.toNat, op.isLt, by simp⟩
  interval_cases n <;> exact ⟨rfl, rfl⟩

/-- Settles O2: the encoded operand bytes are the consumed ones, and the mode of the entry says how many those are. -/
theorem encodeOfDecodeIsTheBytes : Obligations.EncodeOfDecodeIsTheBytes := by
  unfold Obligations.EncodeOfDecodeIsTheBytes
  intro op b1 b2
  obtain ⟨hwf, henc⟩ := decodeAt_wf_and_encode op b1 b2
  refine ⟨hwf, ?_⟩
  rw [henc, Build.operands_eq_take, registry_arity, Nat.add_comm, List.take_succ_cons]

/-- Settles O4: the table of the encoder, read row by row. -/
theorem everyRowHasItsEncoding : Obligations.EveryRowHasItsEncoding := by
  unfold Obligations.EveryRowHasItsEncoding Claims.eightOpcodes Claims.fourOpcodes
  constructorm* _ ∧ _
  all_goals (intros; rfl)

/-- Settles O5: each word is the encoding of its instruction, so O1 decodes it. -/
theorem specWordsDecode : Obligations.SpecWordsDecode := by
  unfold Obligations.SpecWordsDecode
  have h := decodeOfEncodeIsTheInstruction
  exact ⟨h (.ldaImm 0x10) rfl [], h (.ldaAbs 0xABCD) rfl [], h (.jmpInd 0x10FF) rfl [], h .aslAcc rfl [],
    h (.stxZpY 0xFF) rfl [], h (.ldaIndX 0x20) rfl [], h (.ldaIndY 0x20) rfl [], h (.bne 0xFB) rfl [],
    h .brk rfl [], h (.illegal 0x02) rfl []⟩

/-! Which bytes are illegal. -/

/-- The list of R85 has no value twice. -/
theorem illegalOpcodes_nodup : illegalOpcodes.Nodup := by decide

theorem isIllegalOpcode_iff {op : Byte} : isIllegalOpcode op = true ↔ op ∈ illegalOpcodes := List.contains_iff_mem

/-- An illegal byte decodes to its own descriptor, whatever bytes follow (R85). -/
theorem decodeAt_of_mem_illegal {op : Byte} (h : op ∈ illegalOpcodes) (b1 b2 : Byte) :
    decodeAt op b1 b2 = .illegal op := by
  have hdecode := decodeOfEncodeIsTheInstruction (.illegal op) (isIllegalOpcode_iff.mpr h) [b1, b2]
  exact decodeAt_of_decode hdecode

/-- No other byte decodes to an illegal descriptor: an illegal descriptor encodes to its own byte. -/
theorem mem_illegal_of_decodeAt {op b1 b2 op' : Byte} (h : decodeAt op b1 b2 = .illegal op') : op ∈ illegalOpcodes := by
  obtain ⟨hwf, henc⟩ := decodeAt_wf_and_encode op b1 b2
  rw [h] at hwf henc
  obtain ⟨rfl, -⟩ := List.cons_eq_cons.mp henc
  exact isIllegalOpcode_iff.mp hwf

end Sys2Proof

namespace Sys2Proof.Machine

/-- Every instruction but the illegal descriptor answers a next state, and no operation of it writes the engine (R241). -/
theorem exec_engine_of_legal {i : Instr} (h : ∀ op, i ≠ .illegal op) (s : State) :
    ∃ t, exec i s = .next t ∧ t.engine = s.engine := by
  cases i with
  | illegal op => exact absurd rfl (h op)
  | _ => exact ⟨_, rfl, rfl⟩

/-- Settles O3: the illegal bytes decode to the illegal descriptor, which faults; every other byte to a legal row. -/
theorem everyOpcodeByteResolves : Obligations.EveryOpcodeByteResolves := by
  unfold Obligations.EveryOpcodeByteResolves
  refine ⟨rfl, illegalOpcodes_nodup, fun op b1 b2 s => ⟨fun h => ?_, fun h => ?_⟩⟩
  · rw [decodeAt_of_mem_illegal h]
    rfl
  · exact exec_engine_of_legal (fun _ he => h (mem_illegal_of_decodeAt he)) s

end Sys2Proof.Machine

/-! Addressing (40_addressing.md): effective addresses as numbers, with every wrap, and the page-crossing test. -/

namespace Sys2Proof.Machine

theorem zext16_eq_ofNat (b : Byte) : zext16 b = BitVec.ofNat 16 b.toNat := (BitVec.ofNat_toNat 16 b).symm

/-- An index is added to a 16-bit base modulo 65,536 (R109, R110, R113; D8). -/
theorem add_zext16_toNat (base : Word) (index : Byte) :
    (base + zext16 index).toNat = (base.toNat + index.toNat) % 65536 := by
  rw [BitVec.toNat_add, zext16_toNat]

/-- An index is added to a zero-page operand modulo 256 (R105, R106). -/
theorem zext16_add_toNat (operand index : Byte) :
    (zext16 (operand + index)).toNat = (operand.toNat + index.toNat) % 256 := by
  rw [zext16_toNat, BitVec.toNat_add]

/-- Settles O12: a zero-page sum is taken on bytes and then extended, an absolute sum on words. -/
theorem indexedAddressesWrapAsStated : Obligations.IndexedAddressesWrapAsStated := by
  unfold Obligations.IndexedAddressesWrapAsStated
  intro s b w
  exact ⟨zext16_toNat b, zext16_add_toNat b s.x, zext16_add_toNat b s.y, rfl,
    add_zext16_toNat w s.x, add_zext16_toNat w s.y⟩

/-- A zero-page pointer as a number: the step to its high byte stays in the zero page (R112, R113; D14). -/
theorem State.zpPointer_toNat (s : State) (z : Byte) : (s.zpPointer z).toNat =
    256 * (s.read (BitVec.ofNat 16 ((z.toNat + 1) % 256))).toNat + (s.read (BitVec.ofNat 16 z.toNat)).toNat := by
  have hnext : (z + 1).toNat = (z.toNat + 1) % 256 := BitVec.toNat_add z 1
  rw [State.zpPointer, wordOfBytes_toNat, Nat.mul_comm, zext16_eq_ofNat, zext16_eq_ofNat, hnext]

/-- An Indirect pointer as a number: the step to its high byte stays in the pointer's page (R111). -/
theorem State.jumpPointer_toNat (s : State) (p : Word) : (s.jumpPointer p).toNat =
    256 * (s.read (BitVec.ofNat 16 (p.toNat / 256 * 256 + (p.toNat % 256 + 1) % 256))).toNat +
      (s.read (BitVec.ofNat 16 p.toNat)).toNat := by
  rw [State.jumpPointer, wordOfBytes_toNat, Nat.mul_comm, ← pointerHighAddr_toNat, BitVec.ofNat_toNat,
    BitVec.ofNat_toNat, BitVec.setWidth_eq, BitVec.setWidth_eq]

/-- Settles O13: X is added to the pointer before it is read, Y to the address that is read. -/
theorem pointersAreReadAsStated : Obligations.PointersAreReadAsStated := by
  unfold Obligations.PointersAreReadAsStated
  intro s b p
  refine ⟨?_, ?_, State.jumpPointer_toNat s p⟩
  · have hstart : (b + s.x).toNat = (b.toNat + s.x.toNat) % 256 := BitVec.toNat_add b s.x
    rw [AddrMode.ea, State.zpPointer_toNat, hstart, Nat.mod_add_mod]
  · rw [AddrMode.ea, add_zext16_toNat, State.zpPointer_toNat]

/-- Settles O14: an index is less than a page, so the sum leaves the page of `base` exactly when the low bytes carry; when it
wraps past 0xFFFF it reaches page 0 from page 255. -/
theorem pageCrossingTestsAgree : Obligations.PageCrossingTestsAgree := by
  unfold Obligations.PageCrossingTestsAgree
  intro base index
  have hbase := base.isLt
  have hindex := index.isLt
  rw [ne_eq, ← BitVec.toNat_inj, hiByte_toNat, hiByte_toNat, loByte_toNat, add_zext16_toNat]
  omega

end Sys2Proof.Machine

/-! Add and subtract (41_add_subtract.md): the sums of ADC and SBC as numbers, and the flags that no instruction computes
with. -/

namespace Sys2Proof.Machine

/-! Rows that read an operand (R114): the operand, PCn and some count of cycles, then the operation. -/

/-- `i` reads `m`, goes to `pcn`, and is `op` of that byte. -/
def RunsOn (op : State → Byte → State) (s : State) (i : Instr) (m : Byte) (pcn : Word) : Prop :=
  ∃ n, exec i s = .next (op { s with pc := pcn, cycles := s.cycles + n } m)

theorem eightReads_imp {imm zp zpX : Byte → Instr} {abs absX absY : Word → Instr} {indX indY : Byte → Instr} {s : State}
    {P Q : Instr → Byte → Word → Prop} (h : Claims.eightReads imm zp zpX abs absX absY indX indY s P)
    (himp : ∀ i m pcn, P i m pcn → Q i m pcn) : Claims.eightReads imm zp zpX abs absX absY indX indY s Q := by
  obtain ⟨h1, h2, h3, h4, h5, h6, h7, h8⟩ := h
  exact ⟨fun v => himp _ _ _ (h1 v), fun a => himp _ _ _ (h2 a), fun a => himp _ _ _ (h3 a), fun a => himp _ _ _ (h4 a),
    fun a => himp _ _ _ (h5 a), fun a => himp _ _ _ (h6 a), fun a => himp _ _ _ (h7 a), fun a => himp _ _ _ (h8 a)⟩

theorem adc_runsOn (s : State) :
    Claims.eightReads .adcImm .adcZp .adcZpX .adcAbs .adcAbsX .adcAbsY .adcIndX .adcIndY s (RunsOn opAdc s) :=
  ⟨fun _ => ⟨_, rfl⟩, fun _ => ⟨_, rfl⟩, fun _ => ⟨_, rfl⟩, fun _ => ⟨_, rfl⟩,
    fun _ => ⟨_, rfl⟩, fun _ => ⟨_, rfl⟩, fun _ => ⟨_, rfl⟩, fun _ => ⟨_, rfl⟩⟩

theorem sbc_runsOn (s : State) :
    Claims.eightReads .sbcImm .sbcZp .sbcZpX .sbcAbs .sbcAbsX .sbcAbsY .sbcIndX .sbcIndY s (RunsOn opSbc s) :=
  ⟨fun _ => ⟨_, rfl⟩, fun _ => ⟨_, rfl⟩, fun _ => ⟨_, rfl⟩, fun _ => ⟨_, rfl⟩,
    fun _ => ⟨_, rfl⟩, fun _ => ⟨_, rfl⟩, fun _ => ⟨_, rfl⟩, fun _ => ⟨_, rfl⟩⟩

/-! The sums. -/

theorem signed_eq_toInt (b : Byte) : Claims.signed b = b.toInt := by
  have := b.isLt
  simp only [Claims.signed, BitVec.toInt]
  omega

theorem addResult_eq_ofNat (a m : Byte) (c : Bool) :
    addResult a m c = BitVec.ofNat 8 ((a.toNat + m.toNat + c.toNat) % 256) :=
  BitVec.eq_of_toNat_eq (Nat.mod_mod _ _).symm

/-- The flags of an addition, with Z and N in the spelling of the statements (R120). -/
theorem Flags.afterAdd_eq (f : Flags) (a m : Byte) : f.afterAdd a m =
    { Claims.withZN f (addResult a m f.c) with
      c := addCarry a m f.c, v := addOverflow a m (addResult a m f.c) } := by
  rw [Flags.afterAdd, Flags.setZN_eq]
  rfl

/-- A plus the complement of M plus C is A - M - (1 - C) modulo 256 (R121). -/
theorem addResult_borrowOperand (a m : Byte) (c : Bool) : addResult a (borrowOperand m) c =
    BitVec.ofInt 8 ((a.toNat : Int) - m.toNat - (1 - c.toNat)) := by
  have := m.isLt
  apply BitVec.eq_of_toNat_eq
  rw [addResult_toNat, addSum, borrowOperand_toNat, BitVec.toNat_ofInt]
  omega

/-- The carry of that sum is the complement of the borrow (R121). -/
theorem addCarry_borrowOperand (a m : Byte) (c : Bool) : addCarry a (borrowOperand m) c =
    decide (0 ≤ (a.toNat : Int) - m.toNat - (1 - c.toNat)) := by
  have := m.isLt
  rw [addCarry, addSum, borrowOperand_toNat, decide_eq_decide]
  omega

/-- V of that sum is the signed overflow of the subtraction (D7, C2). -/
theorem addOverflow_borrowOperand (a m : Byte) (c : Bool) :
    addOverflow a (borrowOperand m) (addResult a (borrowOperand m) c) =
      decide (Claims.signed a - Claims.signed m - (1 - c.toNat) < -128 ∨
        127 < Claims.signed a - Claims.signed m - (1 - c.toNat)) := by
  rw [Bool.eq_iff_iff, addOverflow_iff, borrowOperand_toInt, decide_eq_true_eq, signed_eq_toInt, signed_eq_toInt]
  omega

/-- Settles O15: every row runs the one addition, whose result and flags are the numbers of R120. -/
theorem adcResult : Obligations.AdcResult := by
  unfold Obligations.AdcResult
  intro s
  refine eightReads_imp (adc_runsOn s) fun i m pcn ⟨n, h⟩ => ⟨n, ?_⟩
  rw [h, opAdc, State.addToA, Flags.afterAdd_eq, addOverflow_eq_msb, addResult_eq_ofNat]
  rfl

/-- Settles O16: every row runs the addition of the complement, which is the subtraction with borrow of R121. -/
theorem sbcResult : Obligations.SbcResult := by
  unfold Obligations.SbcResult
  intro s
  refine eightReads_imp (sbc_runsOn s) fun i m pcn ⟨n, h⟩ => ⟨n, ?_⟩
  rw [h, opSbc, State.addToA, Flags.afterAdd_eq, addOverflow_borrowOperand, addCarry_borrowOperand,
    addResult_borrowOperand]

/-- Settles O17: the 9-bit identity of the addition, of M and of its complement, and V as signed overflow. -/
theorem adcCarryAndOverflowIdentities : Obligations.AdcCarryAndOverflowIdentities := by
  unfold Obligations.AdcCarryAndOverflowIdentities
  intro s m
  refine ⟨_, _, rfl, rfl, addResult_add_carry s.a m s.flags.c, ?_, ?_⟩
  · rw [← borrowOperand_toNat]
    exact addResult_add_carry s.a (borrowOperand m) s.flags.c
  · rw [signed_eq_toInt, signed_eq_toInt]
    exact addOverflow_iff s.a m s.flags.c

/-! I and D are read by no instruction but those that push the flags (R123, R244). -/

/-- `s` with these values of D and I. -/
def State.withDI (s : State) (d i : Bool) : State := { s with flags := { s.flags with d := d, i := i } }

/-- A push stays in the stack page (R21). -/
theorem State.read_push_of_ge (s : State) (v : Byte) {a : Word} (h : 512 ≤ a.toNat) : (s.push v).read a = s.read a :=
  Memory.read_write_other s.mem v (stackAddr_ne_of_ge s.sp h)

/-- BRK takes PC from the vector as it stands before the pushes (R220). -/
theorem State.enterBreak_pc_eq_vector (s : State) (pc0 : Word) :
    (s.enterBreak pc0).pc = s.read16 Config.breakVector := by
  have hread {a : Word} (h : 512 ≤ a.toNat) :
      ((s.pushWord (pc0 + 2)).push (s.flags.pack true)).read a = s.read a := by
    rw [State.read_push_of_ge _ _ h, State.pushWord, State.read_push_of_ge _ _ h, State.read_push_of_ge _ _ h]
  rw [State.enterBreak_pc]
  exact congrArg₂ wordOfBytes (hread (by decide)) (hread (by decide))

/-- The state at the BRK handler: only the pushed flags byte in memory depends on D and I as they were. -/
theorem State.enterBreak_eq (s : State) (pc0 : Word) : s.enterBreak pc0 =
    { s with
      mem := ((s.pushWord (pc0 + 2)).push (s.flags.pack true)).mem, sp := s.sp - 1 - 1 - 1
      flags := { s.flags with i := true }, pc := s.read16 Config.breakVector } := by
  rw [← State.enterBreak_pc_eq_vector s pc0]
  rfl

/-- From states that differ in D and I alone an instruction goes to states that differ in D and I alone, and in memory if
it pushes the flags: D and I are written (CLI, SEI, CLD, SED, BRK), pulled (PLP, RTI), or kept by every other row. -/
theorem exec_withDI (k : Instr) (s : State) (d i : Bool) : ∃ t d' i' mem, exec k s = .next t ∧
    exec k (s.withDI d i) = .next { t.withDI d' i' with mem := mem } ∧ (k ≠ .php → k ≠ .brk → mem = t.mem) := by
  cases k with
  | cli => exact ⟨_, d, false, _, rfl, rfl, fun _ _ => rfl⟩
  | sei => exact ⟨_, d, true, _, rfl, rfl, fun _ _ => rfl⟩
  | cld => exact ⟨_, false, i, _, rfl, rfl, fun _ _ => rfl⟩
  | sed => exact ⟨_, true, i, _, rfl, rfl, fun _ _ => rfl⟩
  | plp => exact ⟨_, (Flags.unpack s.top).d, (Flags.unpack s.top).i, _, rfl, rfl, fun _ _ => rfl⟩
  | rti => exact ⟨_, (Flags.unpack s.top).d, (Flags.unpack s.top).i, _, rfl, rfl, fun _ _ => rfl⟩
  | php => exact ⟨_, d, i, _, rfl, rfl, fun h => absurd rfl h⟩
  | brk =>
    exact ⟨_, d, true, _, congrArg Host.Outcome.next (State.enterBreak_eq _ _),
      congrArg Host.Outcome.next (State.enterBreak_eq _ _), fun _ h => absurd rfl h⟩
  | _ => exact ⟨_, d, i, _, rfl, rfl, fun _ _ => rfl⟩

/-- Settles O55: what D and I of the two next states are is not compared, nor memory after a push of the flags. -/
theorem interruptAndDecimalFlagsHaveNoEffect : Obligations.InterruptAndDecimalFlagsHaveNoEffect := by
  unfold Obligations.InterruptAndDecimalFlagsHaveNoEffect
  intro k s d i
  obtain ⟨t, _, _, _, ht, hu, hmem⟩ := exec_withDI k s d i
  exact ⟨t, _, ht, hu, rfl, rfl, rfl, rfl, rfl, rfl, rfl, rfl, rfl, rfl, rfl, rfl, hmem⟩

end Sys2Proof.Machine

/-! Logical operations and BIT (42_logical_bit.md): the result byte goes to A with Z and N from it; BIT writes flags only. -/

namespace Sys2Proof.Machine

theorem and_runsOn (s : State) :
    Claims.eightReads .andImm .andZp .andZpX .andAbs .andAbsX .andAbsY .andIndX .andIndY s (RunsOn opAnd s) :=
  ⟨fun _ => ⟨_, rfl⟩, fun _ => ⟨_, rfl⟩, fun _ => ⟨_, rfl⟩, fun _ => ⟨_, rfl⟩,
    fun _ => ⟨_, rfl⟩, fun _ => ⟨_, rfl⟩, fun _ => ⟨_, rfl⟩, fun _ => ⟨_, rfl⟩⟩

theorem ora_runsOn (s : State) :
    Claims.eightReads .oraImm .oraZp .oraZpX .oraAbs .oraAbsX .oraAbsY .oraIndX .oraIndY s (RunsOn opOra s) :=
  ⟨fun _ => ⟨_, rfl⟩, fun _ => ⟨_, rfl⟩, fun _ => ⟨_, rfl⟩, fun _ => ⟨_, rfl⟩,
    fun _ => ⟨_, rfl⟩, fun _ => ⟨_, rfl⟩, fun _ => ⟨_, rfl⟩, fun _ => ⟨_, rfl⟩⟩

theorem eor_runsOn (s : State) :
    Claims.eightReads .eorImm .eorZp .eorZpX .eorAbs .eorAbsX .eorAbsY .eorIndX .eorIndY s (RunsOn opEor s) :=
  ⟨fun _ => ⟨_, rfl⟩, fun _ => ⟨_, rfl⟩, fun _ => ⟨_, rfl⟩, fun _ => ⟨_, rfl⟩,
    fun _ => ⟨_, rfl⟩, fun _ => ⟨_, rfl⟩, fun _ => ⟨_, rfl⟩, fun _ => ⟨_, rfl⟩⟩

/-- A load of A, with Z and N in the spelling of the statements (R7). -/
theorem State.loadA_eq (s : State) (r : Byte) : s.loadA r = { s with a := r, flags := Claims.withZN s.flags r } := by
  rw [State.loadA, Flags.setZN_eq]
  rfl

/-- A row whose operation is `A <- f A M` completes with that byte in A, Z and N from it, and nothing else written. -/
theorem RunsOn.completes_loadA {f : Byte → Byte → Byte} {s : State} {i : Instr} {m : Byte} {pcn : Word}
    (h : RunsOn (fun t v => t.loadA (f t.a v)) s i m pcn) :
    Claims.completes i s { s with a := f s.a m, flags := Claims.withZN s.flags (f s.a m), pc := pcn } := by
  obtain ⟨n, h⟩ := h
  exact ⟨n, h.trans (congrArg Host.Outcome.next (State.loadA_eq _ _))⟩

theorem getLsbD_seven_eq_decide (m : Byte) : m.getLsbD 7 = decide (128 ≤ m.toNat) := by
  revert m; decide

theorem getLsbD_six_eq_decide (m : Byte) : m.getLsbD 6 = decide (64 ≤ m.toNat % 128) := by
  revert m; decide

/-- The flags of BIT, with bits 7 and 6 of the operand as numbers (R133, C5). -/
theorem Flags.afterBit_eq (f : Flags) (a m : Byte) : f.afterBit a m =
    { f with z := decide (a &&& m = 0), n := decide (128 ≤ m.toNat), v := decide (64 ≤ m.toNat % 128) } := by
  rw [Flags.afterBit, getLsbD_seven_eq_decide, getLsbD_six_eq_decide]
  rfl

/-- A row whose operation is BIT writes Z, N and V and nothing else. -/
theorem RunsOn.completes_bit {s : State} {i : Instr} {m : Byte} {pcn : Word} (h : RunsOn opBit s i m pcn) :
    Claims.completes i s { s with
      pc := pcn
      flags := { s.flags with
        z := decide (s.a &&& m = 0), n := decide (128 ≤ m.toNat), v := decide (64 ≤ m.toNat % 128) } } := by
  obtain ⟨n, h⟩ := h
  refine ⟨n, ?_⟩
  rw [h, opBit, Flags.afterBit_eq]

/-- Settles O18: the rows of AND, ORA and EOR differ in the byte function whose value A takes. -/
theorem logicalResults : Obligations.LogicalResults := by
  unfold Obligations.LogicalResults
  intro s
  refine ⟨?and, ?ora, ?eor⟩
  case and => exact eightReads_imp (and_runsOn s) fun _ _ _ h => RunsOn.completes_loadA (f := (· &&& ·)) h
  case ora => exact eightReads_imp (ora_runsOn s) fun _ _ _ h => RunsOn.completes_loadA (f := (· ||| ·)) h
  case eor => exact eightReads_imp (eor_runsOn s) fun _ _ _ h => RunsOn.completes_loadA (f := (· ^^^ ·)) h

/-- Settles O19: both rows run the one operation on the byte at their address. -/
theorem bitTestResult : Obligations.BitTestResult := by
  unfold Obligations.BitTestResult
  intro s
  exact ⟨fun _ => RunsOn.completes_bit ⟨_, rfl⟩, fun _ => RunsOn.completes_bit ⟨_, rfl⟩⟩

end Sys2Proof.Machine

/-! Shift and rotate (43_shift_rotate.md): every row runs one of four byte functions, on A or on the cell at `ea`; the two
rotates turn the pair of C and the byte as one 9-bit number. -/

namespace Sys2Proof.Machine

/-! Rows that rewrite a cell (R114): `ea`, PCn and some count of cycles, then the operation. -/

/-- `i` goes to `pcn`, and is `op` at the address `ea`. -/
def RunsOnCell (op : State → Word → State) (s : State) (i : Instr) (ea pcn : Word) : Prop :=
  ∃ n, exec i s = .next (op { s with pc := pcn, cycles := s.cycles + n } ea)

theorem fourCells_imp {zp zpX : Byte → Instr} {abs absX : Word → Instr} {s : State} {P Q : Instr → Word → Word → Prop}
    (h : Claims.fourCells zp zpX abs absX s P) (himp : ∀ i ea pcn, P i ea pcn → Q i ea pcn) :
    Claims.fourCells zp zpX abs absX s Q := by
  obtain ⟨h1, h2, h3, h4⟩ := h
  exact ⟨fun a => himp _ _ _ (h1 a), fun a => himp _ _ _ (h2 a), fun a => himp _ _ _ (h3 a), fun a => himp _ _ _ (h4 a)⟩

/-! The five rows of a mnemonic. -/

/-- The Accumulator row and the four memory rows run the byte function `f`. -/
def RunsShift (f : Shift) (acc : Instr) (zp zpX : Byte → Instr) (abs absX : Word → Instr) (s : State) : Prop :=
  (∃ n, exec acc s = .next (State.shiftA { s with pc := s.pc + 1, cycles := s.cycles + n } f)) ∧
  Claims.fourCells zp zpX abs absX s (RunsOnCell (fun t addr => t.shiftCell f addr) s)

theorem asl_runsShift (s : State) : RunsShift shiftAsl .aslAcc .aslZp .aslZpX .aslAbs .aslAbsX s :=
  ⟨⟨_, rfl⟩, fun _ => ⟨_, rfl⟩, fun _ => ⟨_, rfl⟩, fun _ => ⟨_, rfl⟩, fun _ => ⟨_, rfl⟩⟩

theorem lsr_runsShift (s : State) : RunsShift shiftLsr .lsrAcc .lsrZp .lsrZpX .lsrAbs .lsrAbsX s :=
  ⟨⟨_, rfl⟩, fun _ => ⟨_, rfl⟩, fun _ => ⟨_, rfl⟩, fun _ => ⟨_, rfl⟩, fun _ => ⟨_, rfl⟩⟩

theorem rol_runsShift (s : State) : RunsShift shiftRol .rolAcc .rolZp .rolZpX .rolAbs .rolAbsX s :=
  ⟨⟨_, rfl⟩, fun _ => ⟨_, rfl⟩, fun _ => ⟨_, rfl⟩, fun _ => ⟨_, rfl⟩, fun _ => ⟨_, rfl⟩⟩

theorem ror_runsShift (s : State) : RunsShift shiftRor .rorAcc .rorZp .rorZpX .rorAbs .rorAbsX s :=
  ⟨⟨_, rfl⟩, fun _ => ⟨_, rfl⟩, fun _ => ⟨_, rfl⟩, fun _ => ⟨_, rfl⟩, fun _ => ⟨_, rfl⟩⟩

/-- A result byte with that carry out is the pair the statements write with numbers. -/
theorem Shift.eq_ofNat {f : Shift} {result : Nat → Nat → Nat} {carry : Nat → Bool}
    (hf : ∀ v c, (f v c).1.toNat = result v.toNat c.toNat ∧ (f v c).2 = carry v.toNat) (v : Byte) (c : Bool) :
    f v c = (BitVec.ofNat 8 (result v.toNat c.toNat), carry v.toNat) := by
  obtain ⟨hr, hc⟩ := hf v c
  rw [← hr, ← hc, BitVec.ofNat_toNat, BitVec.setWidth_eq]

/-- The flags of a shift, with Z and N in the spelling of the statements (R7). -/
theorem Flags.afterShift_eq (f : Flags) (r : Byte) (c : Bool) :
    f.afterShift r c = { Claims.withZN f r with c := c } := by
  rw [Flags.afterShift, Flags.setZN_eq]
  rfl

/-- Rows that run `f` complete as the numbers of `f` say, in A or in the one cell. -/
theorem RunsShift.shiftRows {f : Shift} {acc : Instr} {zp zpX : Byte → Instr} {abs absX : Word → Instr} {s : State}
    {result : Nat → Nat → Nat} {carry : Nat → Bool} (h : RunsShift f acc zp zpX abs absX s)
    (hf : ∀ v c, (f v c).1.toNat = result v.toNat c.toNat ∧ (f v c).2 = carry v.toNat) :
    Claims.shiftRows acc zp zpX abs absX result carry s := by
  obtain ⟨⟨n, hacc⟩, hcells⟩ := h
  refine ⟨⟨n, ?acc⟩, fourCells_imp hcells fun i ea pcn ⟨k, hi⟩ => ⟨k, ?cell⟩⟩
  case acc => simp only [hacc, State.shiftA, Flags.afterShift_eq, Shift.eq_ofNat hf]
  case cell =>
    simp only [hi, State.shiftCell, Flags.afterShift_eq, Shift.eq_ofNat hf]
    rfl

/-- Settles O20: the rows of the four mnemonics differ in the byte function, whose numbers are those of R140 to R143. -/
theorem shiftAndRotateResults : Obligations.ShiftAndRotateResults := by
  unfold Obligations.ShiftAndRotateResults
  intro s
  exact ⟨(asl_runsShift s).shiftRows shiftAsl_toNat, (lsr_runsShift s).shiftRows shiftLsr_toNat,
    (rol_runsShift s).shiftRows shiftRol_toNat, (ror_runsShift s).shiftRows shiftRor_toNat⟩

/-! The rotates on the 9-bit number: ROL reads C below the byte and writes it above, ROR the other way round. -/

theorem decide_toNat (p : Prop) [Decidable p] : (decide p).toNat = if p then 1 else 0 :=
  apply_ite Bool.toNat p true false

theorem shiftRol_rotates (v : Byte) (c : Bool) :
    (shiftRol v c).1.toNat + 256 * (shiftRol v c).2.toNat = 2 * v.toNat + c.toNat := by
  have := v.isLt
  obtain ⟨hr, hc⟩ := shiftRol_toNat v c
  rw [hr, hc, decide_toNat]
  split <;> omega

theorem shiftRor_rotates (v : Byte) (c : Bool) :
    2 * (shiftRor v c).1.toNat + (shiftRor v c).2.toNat = v.toNat + 256 * c.toNat := by
  obtain ⟨hr, hc⟩ := shiftRor_toNat v c
  rw [hr, hc, decide_toNat]
  split <;> omega

theorem byte_carry_ext {p q : Byte × Bool} (hv : p.1.toNat = q.1.toNat) (hc : p.2.toNat = q.2.toNat) : p = q :=
  have toNat_injective : Function.Injective Bool.toNat := by decide
  Prod.ext (BitVec.eq_of_toNat_eq hv) (toNat_injective hc)

/-- ROR takes back what ROL did (R143): twice the byte plus a carry fixes both. -/
theorem shiftRor_shiftRol (v : Byte) (c : Bool) : shiftRor (shiftRol v c).1 (shiftRol v c).2 = (v, c) := by
  have hback := shiftRor_rotates (shiftRol v c).1 (shiftRol v c).2
  rw [shiftRol_rotates] at hback
  have := c.toNat_lt; have := (shiftRor (shiftRol v c).1 (shiftRol v c).2).2.toNat_lt
  apply byte_carry_ext <;> dsimp only <;> omega

/-- ROL takes back what ROR did (R143): the byte plus 256 times a carry fixes both. -/
theorem shiftRol_shiftRor (v : Byte) (c : Bool) : shiftRol (shiftRor v c).1 (shiftRor v c).2 = (v, c) := by
  have hback := shiftRol_rotates (shiftRor v c).1 (shiftRor v c).2
  rw [shiftRor_rotates] at hback
  have := v.isLt; have := (shiftRol (shiftRor v c).1 (shiftRor v c).2).1.isLt
  apply byte_carry_ext <;> dsimp only <;> omega

/-- Settles O21: the second Accumulator form runs its byte function on the A and C that the first one left. -/
theorem rotatesAreInverse : Obligations.RotatesAreInverse := by
  unfold Obligations.RotatesAreInverse
  intro s
  have hrol := shiftRor_shiftRol s.a s.flags.c
  have hror := shiftRol_shiftRor s.a s.flags.c
  exact ⟨⟨_, _, rfl, rfl, congrArg Prod.fst hrol, congrArg Prod.snd hrol⟩,
    ⟨_, _, rfl, rfl, congrArg Prod.fst hror, congrArg Prod.snd hror⟩⟩

end Sys2Proof.Machine

/-! Compare (44_compare.md): every row sets C, Z and N from a register and its operand, and writes nothing else. -/

namespace Sys2Proof.Machine

/-- Bit 7 of the wrapped difference, as a number (R150). -/
theorem sub_msb_eq_decide (r m : Byte) : (r - m).msb = decide (128 ≤ (r.toNat + 256 - m.toNat) % 256) := by
  have := m.isLt
  rw [BitVec.msb_eq_decide, BitVec.toNat_sub, decide_eq_decide]
  omega

/-- A compare, with its flags in the spelling of the statements (R150). -/
theorem State.compare_eq (s : State) (r m : Byte) :
    s.compare r m = { s with flags := Claims.compared s.flags r m } := by
  rw [State.compare, Flags.afterCompare, sub_msb_eq_decide]
  rfl

/-- A row that compares the byte `r` with its operand writes C, Z and N and nothing else. -/
theorem RunsOn.completes_compare {r : Byte} {s : State} {i : Instr} {m : Byte} {pcn : Word}
    (h : RunsOn (fun t v => t.compare r v) s i m pcn) :
    Claims.completes i s { s with flags := Claims.compared s.flags r m, pc := pcn } := by
  obtain ⟨n, h⟩ := h
  exact ⟨n, h.trans (congrArg Host.Outcome.next (State.compare_eq _ _ _))⟩

theorem cmp_runsOn (s : State) :
    Claims.eightReads .cmpImm .cmpZp .cmpZpX .cmpAbs .cmpAbsX .cmpAbsY .cmpIndX .cmpIndY s (RunsOn opCmp s) :=
  ⟨fun _ => ⟨_, rfl⟩, fun _ => ⟨_, rfl⟩, fun _ => ⟨_, rfl⟩, fun _ => ⟨_, rfl⟩,
    fun _ => ⟨_, rfl⟩, fun _ => ⟨_, rfl⟩, fun _ => ⟨_, rfl⟩, fun _ => ⟨_, rfl⟩⟩

/-- Settles O22: every row compares A, X or Y as it stands before the step; PCn and the cycles touch no register. -/
theorem compareResults : Obligations.CompareResults := by
  unfold Obligations.CompareResults
  intro s
  refine ⟨?cmp, ?cpxImm, ?cpxZp, ?cpxAbs, ?cpyImm, ?cpyZp, ?cpyAbs⟩
  case cmp => exact eightReads_imp (cmp_runsOn s) fun _ _ _ h => RunsOn.completes_compare (r := s.a) h
  case cpxImm | cpxZp | cpxAbs => exact fun _ => RunsOn.completes_compare (r := s.x) ⟨_, rfl⟩
  case cpyImm | cpyZp | cpyAbs => exact fun _ => RunsOn.completes_compare (r := s.y) ⟨_, rfl⟩

end Sys2Proof.Machine

/-! Increment and decrement (45_inc_dec.md): the cell at `ea`, X or Y takes a byte function of itself, with Z and N from it.
Plus and minus 1 on a byte as numbers are `sp_add_one_eq_ofNat` and `sp_sub_one_eq_ofNat`. -/

namespace Sys2Proof.Machine

/-- A store that sets Z and N, with the flags in the spelling of the statements (R7). -/
theorem State.storeCell_eq (s : State) (addr : Word) (r : Byte) :
    s.storeCell addr r = { s with mem := s.mem.write addr r, flags := Claims.withZN s.flags r } := by
  rw [State.storeCell, Flags.setZN_eq]
  rfl

/-- A load of X, with Z and N in the spelling of the statements (R7). -/
theorem State.loadX_eq (s : State) (r : Byte) : s.loadX r = { s with x := r, flags := Claims.withZN s.flags r } := by
  rw [State.loadX, Flags.setZN_eq]
  rfl

/-- A load of Y, with Z and N in the spelling of the statements (R7). -/
theorem State.loadY_eq (s : State) (r : Byte) : s.loadY r = { s with y := r, flags := Claims.withZN s.flags r } := by
  rw [State.loadY, Flags.setZN_eq]
  rfl

/-- A row whose operation stores `f` of the cell back completes with that byte there, Z and N from it, and nothing else
written. -/
theorem RunsOnCell.completes_storeCell {f : Byte → Byte} {s : State} {i : Instr} {ea pcn : Word}
    (h : RunsOnCell (fun t addr => t.storeCell addr (f (t.read addr))) s i ea pcn) :
    Claims.completes i s { s with
      mem := s.mem.write ea (f (s.read ea)), flags := Claims.withZN s.flags (f (s.read ea)), pc := pcn } := by
  obtain ⟨n, h⟩ := h
  exact ⟨n, h.trans (congrArg Host.Outcome.next (State.storeCell_eq _ _ _))⟩

theorem inc_runsOnCell (s : State) : Claims.fourCells .incZp .incZpX .incAbs .incAbsX s (RunsOnCell opInc s) :=
  ⟨fun _ => ⟨_, rfl⟩, fun _ => ⟨_, rfl⟩, fun _ => ⟨_, rfl⟩, fun _ => ⟨_, rfl⟩⟩

theorem dec_runsOnCell (s : State) : Claims.fourCells .decZp .decZpX .decAbs .decAbsX s (RunsOnCell opDec s) :=
  ⟨fun _ => ⟨_, rfl⟩, fun _ => ⟨_, rfl⟩, fun _ => ⟨_, rfl⟩, fun _ => ⟨_, rfl⟩⟩

/-- Settles O23: the rows of INC and DEC differ in the byte function that the cell takes. -/
theorem incrementDecrementMemory : Obligations.IncrementDecrementMemory := by
  unfold Obligations.IncrementDecrementMemory
  intro s
  simp only [← sp_add_one_eq_ofNat, ← sp_sub_one_eq_ofNat]
  refine ⟨?inc, ?dec⟩
  case inc => exact fourCells_imp (inc_runsOnCell s) fun _ _ _ h => RunsOnCell.completes_storeCell (f := (· + 1)) h
  case dec => exact fourCells_imp (dec_runsOnCell s) fun _ _ _ h => RunsOnCell.completes_storeCell (f := (· - 1)) h

/-- Settles O24: each row loads X or Y with its own value plus or minus 1. -/
theorem incrementDecrementRegisters : Obligations.IncrementDecrementRegisters := by
  unfold Obligations.IncrementDecrementRegisters
  intro s
  simp only [← sp_add_one_eq_ofNat, ← sp_sub_one_eq_ofNat]
  refine ⟨?inx, ?dex, ?iny, ?dey⟩
  case inx | dex => exact ⟨_, congrArg Host.Outcome.next (State.loadX_eq _ _)⟩
  case iny | dey => exact ⟨_, congrArg Host.Outcome.next (State.loadY_eq _ _)⟩

end Sys2Proof.Machine

/-! Load and store (46_load_store.md): a load moves the operand byte to A, X or Y with Z and N from it; a store moves A, X or
Y to the one cell at `ea`. -/

namespace Sys2Proof.Machine

theorem lda_runsOn (s : State) :
    Claims.eightReads .ldaImm .ldaZp .ldaZpX .ldaAbs .ldaAbsX .ldaAbsY .ldaIndX .ldaIndY s (RunsOn opLda s) :=
  ⟨fun _ => ⟨_, rfl⟩, fun _ => ⟨_, rfl⟩, fun _ => ⟨_, rfl⟩, fun _ => ⟨_, rfl⟩,
    fun _ => ⟨_, rfl⟩, fun _ => ⟨_, rfl⟩, fun _ => ⟨_, rfl⟩, fun _ => ⟨_, rfl⟩⟩

/-- A row whose operation is `X <- M` completes with the operand byte in X, Z and N from it, and nothing else written. -/
theorem RunsOn.completes_loadX {s : State} {i : Instr} {m : Byte} {pcn : Word} (h : RunsOn opLdx s i m pcn) :
    Claims.completes i s { s with x := m, flags := Claims.withZN s.flags m, pc := pcn } := by
  obtain ⟨n, h⟩ := h
  exact ⟨n, h.trans (congrArg Host.Outcome.next (State.loadX_eq _ _))⟩

/-- A row whose operation is `Y <- M` completes with the operand byte in Y, Z and N from it, and nothing else written. -/
theorem RunsOn.completes_loadY {s : State} {i : Instr} {m : Byte} {pcn : Word} (h : RunsOn opLdy s i m pcn) :
    Claims.completes i s { s with y := m, flags := Claims.withZN s.flags m, pc := pcn } := by
  obtain ⟨n, h⟩ := h
  exact ⟨n, h.trans (congrArg Host.Outcome.next (State.loadY_eq _ _))⟩

/-- Settles O25: the rows of LDA, LDX and LDY differ in the register that takes the operand byte. -/
theorem loadResults : Obligations.LoadResults := by
  unfold Obligations.LoadResults
  intro s
  refine ⟨?lda, ?ldxImm, ?ldxZp, ?ldxZpY, ?ldxAbs, ?ldxAbsY, ?ldyImm, ?ldyZp, ?ldyZpX, ?ldyAbs, ?ldyAbsX⟩
  case lda => exact eightReads_imp (lda_runsOn s) fun _ _ _ h => RunsOn.completes_loadA (f := fun _ m => m) h
  case ldxImm | ldxZp | ldxZpY | ldxAbs | ldxAbsY => exact fun _ => RunsOn.completes_loadX ⟨_, rfl⟩
  case ldyImm | ldyZp | ldyZpX | ldyAbs | ldyAbsX => exact fun _ => RunsOn.completes_loadY ⟨_, rfl⟩

/-- A row whose operation is a write of `r` at `ea` completes with `r` in that cell, and nothing else written. -/
theorem RunsOnCell.completes_write {r : Byte} {s : State} {i : Instr} {ea pcn : Word}
    (h : RunsOnCell (fun t addr => t.write addr r) s i ea pcn) :
    Claims.completes i s { s with mem := s.mem.write ea r, pc := pcn } :=
  h

/-- Settles O26: the rows differ in the register whose byte, as it stands before the step, goes to the cell at `ea`. -/
theorem storeResults : Obligations.StoreResults := by
  unfold Obligations.StoreResults
  intro s
  refine ⟨?staZp, ?staZpX, ?staAbs, ?staAbsX, ?staAbsY, ?staIndX, ?staIndY, ?stxZp, ?stxZpY, ?stxAbs,
    ?styZp, ?styZpX, ?styAbs⟩
  case staZp | staZpX | staAbs | staAbsX | staAbsY | staIndX | staIndY =>
    exact fun _ => RunsOnCell.completes_write (r := s.a) ⟨_, rfl⟩
  case stxZp | stxZpY | stxAbs => exact fun _ => RunsOnCell.completes_write (r := s.x) ⟨_, rfl⟩
  case styZp | styZpX | styAbs => exact fun _ => RunsOnCell.completes_write (r := s.y) ⟨_, rfl⟩

end Sys2Proof.Machine

/-! Transfers and the stack (47_transfer_stack.md): a transfer moves a register to a register, with Z and N but for TXS; a push
stores at the cell of S, a pull reads at the cell of S + 1; a flags byte is N V 1 B D I Z C. -/

namespace Sys2Proof.Machine

/-- A push, with its cell in the spelling of the statements (R56). -/
theorem State.push_eq (s : State) (v : Byte) :
    s.push v = { s with mem := s.mem.write (Claims.stackCell s.sp) v, sp := s.sp - 1 } := by
  rw [State.push, stackAddr_eq_stackCell]

/-- The byte of a pull, with its cell in the spelling of the statements (R56; D6). -/
theorem State.top_eq (s : State) : s.top = s.read (Claims.stackCell (s.sp + 1)) := by
  rw [State.top, stackAddr_eq_stackCell]

/-- Bit 5 of a pushed flags byte holds no flag (R24; D2). -/
theorem Flags.pack_getLsbD_five (f : Flags) (b4 : Bool) : (f.pack b4).getLsbD 5 = true := by
  obtain ⟨n, v, b, d, i, z, c⟩ := f
  revert n v b d i z c b4
  decide

/-- The bits of a flags byte: but for bit 5, what it unpacks to (R24; D1). -/
theorem Flags.pack_bits (f : Flags) (b4 : Bool) :
    (f.pack b4).getLsbD 7 = f.n ∧ (f.pack b4).getLsbD 6 = f.v ∧ (f.pack b4).getLsbD 5 = true ∧
      (f.pack b4).getLsbD 4 = b4 ∧ (f.pack b4).getLsbD 3 = f.d ∧ (f.pack b4).getLsbD 2 = f.i ∧
      (f.pack b4).getLsbD 1 = f.z ∧ (f.pack b4).getLsbD 0 = f.c := by
  have h := Flags.unpack_pack f b4
  exact ⟨congrArg Flags.n h, congrArg Flags.v h, Flags.pack_getLsbD_five f b4, congrArg Flags.b h,
    congrArg Flags.d h, congrArg Flags.i h, congrArg Flags.z h, congrArg Flags.c h⟩

/-- Settles O30: PHP pushes the packed flags, whose bits are known; PLP unpacks the byte on top of the stack. -/
theorem phpAndPlpResults : Obligations.PhpAndPlpResults := by
  unfold Obligations.PhpAndPlpResults
  intro s
  refine ⟨⟨s.flags.pack s.flags.b, ?php, Flags.pack_bits s.flags s.flags.b⟩, ?plp⟩
  case php => exact ⟨_, congrArg Host.Outcome.next (State.push_eq _ _)⟩
  case plp =>
    rw [← State.top_eq]
    exact ⟨_, rfl⟩

/-- Settles O28: five transfers load their destination, with Z and N; TXS only sets S. -/
theorem transferResults : Obligations.TransferResults := by
  unfold Obligations.TransferResults
  intro s
  refine ⟨?tax, ?txa, ?tay, ?tya, ?tsx, ?txs⟩
  case tax | tsx => exact ⟨_, congrArg Host.Outcome.next (State.loadX_eq _ _)⟩
  case txa | tya => exact ⟨_, congrArg Host.Outcome.next (State.loadA_eq _ _)⟩
  case tay => exact ⟨_, congrArg Host.Outcome.next (State.loadY_eq _ _)⟩
  case txs => exact ⟨_, rfl⟩

/-- Settles O29: PHA pushes A; PLA loads A with the byte on top of the stack. -/
theorem phaAndPlaResults : Obligations.PhaAndPlaResults := by
  unfold Obligations.PhaAndPlaResults
  intro s
  refine ⟨?pha, ?pla⟩
  case pha => exact ⟨_, congrArg Host.Outcome.next (State.push_eq _ _)⟩
  case pla =>
    rw [← State.top_eq]
    exact ⟨_, congrArg Host.Outcome.next (State.loadA_eq _ _)⟩

end Sys2Proof.Machine

/-! Branches, jumps and subroutines (48_branch_jump.md): each of them writes PC; JSR pushes and RTS pulls a word. -/

namespace Sys2Proof

/-- The high byte as a number (R6). -/
theorem hiByte_eq_ofNat (w : Word) : hiByte w = BitVec.ofNat 8 (w.toNat / 256) := by
  rw [← hiByte_toNat, BitVec.ofNat_toNat, BitVec.setWidth_eq]

/-- The low byte as a number (R6). -/
theorem loByte_eq_ofNat (w : Word) : loByte w = BitVec.ofNat 8 (w.toNat % 256) := by
  rw [← loByte_toNat, BitVec.ofNat_toNat, BitVec.setWidth_eq]

end Sys2Proof

namespace Sys2Proof.Machine

/-- The branch target from PC0 as an integer: the wrap of PCn and that of the target are one wrap (R107, D8). -/
theorem branchTarget_add_two (pc : Word) (off : Byte) :
    branchTarget (pc + 2) off = BitVec.ofInt 16 ((pc.toNat : Int) + 2 + Claims.signed off) := by
  have hpcn : BitVec.ofInt 16 ((pc + 2).toNat : Int) = BitVec.ofInt 16 ((pc.toNat : Int) + 2) := by
    rw [BitVec.ofInt_add, BitVec.ofInt_natCast, BitVec.ofInt_natCast, BitVec.ofNat_toNat, BitVec.ofNat_toNat,
      BitVec.setWidth_eq, BitVec.setWidth_eq]
    rfl
  rw [branchTarget_eq, signed_eq_toInt, BitVec.ofInt_add, hpcn, ← BitVec.ofInt_add]

/-- A row that is the common branch rule on `cond` branches as R200 says. -/
theorem branches_of_branch {i : Byte → Instr} {cond : Bool} {s : State}
    (h : ∀ off, exec (i off) s = branch cond off s) : Claims.branches i cond s := by
  intro off
  refine ⟨2 + cond.toNat, ?_⟩
  rw [h, branch_eq, branchTarget_add_two]

/-- Settles O32: the eight rows differ in the flag and the polarity that the common branch rule is given. -/
theorem branchResults : Obligations.BranchResults := by
  unfold Obligations.BranchResults
  intro s
  simp only [Bool.decide_eq_true, Bool.decide_eq_false]
  refine ⟨?_, ?_, ?_, ?_, ?_, ?_, ?_, ?_⟩ <;> exact branches_of_branch fun _ => rfl

/-- The cell of the high byte of an Indirect pointer, with its page wrap as numbers (R111). -/
theorem pointerHighAddr_eq_ofNat (p : Word) :
    pointerHighAddr p = BitVec.ofNat 16 (p.toNat / 256 * 256 + (p.toNat % 256 + 1) % 256) := by
  rw [← pointerHighAddr_toNat, BitVec.ofNat_toNat, BitVec.setWidth_eq]

/-- Settles O33: PC takes the effective address, which for Indirect is read through the pointer. -/
theorem jumpResults : Obligations.JumpResults := by
  unfold Obligations.JumpResults
  intro s a p
  refine ⟨⟨3, rfl⟩, ?_⟩
  rw [← pointerHighAddr_eq_ofNat]
  exact ⟨5, rfl⟩

/-- A pushed word, with its two cells in the spelling of the statements (R56). -/
theorem State.pushWord_eq (s : State) (w : Word) : s.pushWord w = { s with
    mem := (s.mem.write (Claims.stackCell s.sp) (BitVec.ofNat 8 (w.toNat / 256))).write
      (Claims.stackCell (s.sp - 1)) (BitVec.ofNat 8 (w.toNat % 256))
    sp := s.sp - 2 } := by
  rw [State.pushWord, State.push_eq, State.push_eq, hiByte_eq_ofNat, loByte_eq_ofNat, Byte.sub_one_sub_one]

/-- A pulled word, with its two cells in the spelling of the statements (R56; D6). -/
theorem State.topWord_eq (s : State) : s.topWord =
    wordOfBytes (s.read (Claims.stackCell (s.sp + 1))) (s.read (Claims.stackCell (s.sp + 2))) := by
  rw [State.topWord, State.top_eq, State.top_eq, State.popped_sp, State.read_popped, Byte.add_one_add_one]

/-- The state after a JSR: it pushes PCn - 1, which is PC0 + 2 (R210). -/
theorem exec_jsr (a : Word) (s : State) :
    exec (.jsr a) s = .next { (s.advance 3 6).pushWord (s.pc + 2) with pc := a } := by
  have hpc : s.pc + 3 - 1 = s.pc + 2 := by bv_omega
  rw [← hpc]
  rfl

/-- The state after an RTS: two pulls, and PC is the pulled word plus 1 (R211). -/
theorem exec_rts (s : State) :
    exec .rts s = .next { s with sp := s.sp + 2, pc := s.topWord + 1, cycles := s.cycles + 6 } := by
  rw [← Byte.add_one_add_one]
  rfl

/-- Settles O34: the pushed word is PC0 + 2. -/
theorem jsrResult : Obligations.JsrResult := by
  unfold Obligations.JsrResult
  intro s a
  refine ⟨6, ?_⟩
  rw [exec_jsr, State.pushWord_eq]
  rfl

theorem ofNat_add_one_mod (n : Nat) : BitVec.ofNat 16 n + 1 = BitVec.ofNat 16 ((n + 1) % 65536) := by bv_omega

/-- Settles O35: the pulled word as a number, plus 1. -/
theorem rtsResult : Obligations.RtsResult := by
  unfold Obligations.RtsResult
  intro s lo hi
  have hpc : s.topWord + 1 = BitVec.ofNat 16 ((256 * hi + lo + 1) % 65536) := by
    rw [State.topWord_eq, wordOfBytes_eq_ofNat, ofNat_add_one_mod]
  exact ⟨6, by rw [exec_rts, hpc]⟩

/-- Settles O36: RTS pulls the word that JSR pushed, PC0 + 2, and adds 1. -/
theorem jsrThenRtsReturns : Obligations.JsrThenRtsReturns := by
  unfold Obligations.JsrThenRtsReturns
  intro s a
  refine ⟨_, _, exec_jsr a s, rfl, exec_rts _, ?pc, ?sp, ?_⟩
  case pc =>
    have hword : ((s.advance 3 6).pushWord (s.pc + 2)).topWord + 1 = s.pc + 3 := by
      rw [State.topWord_pushWord]
      bv_omega
    exact hword
  case sp =>
    show s.sp - 1 - 1 + 2 = s.sp
    bv_omega
  exact ⟨rfl, rfl, rfl, rfl⟩

end Sys2Proof.Machine

/-! Software interrupt, flag instructions and NOP (49_interrupt_flag_nop.md): BRK pushes a word and a flags byte, RTI pulls
both; each of the other rows writes one flag or none. -/

namespace Sys2Proof

theorem Byte.add_one_add_two (b : Byte) : b + 1 + 2 = b + 3 := by bv_omega

end Sys2Proof

namespace Sys2Proof.Machine

/-- The state at the handler after a BRK at PC0: three bytes pushed, I set, PC from the vector (R220). -/
theorem exec_brk (s : State) : exec .brk s = .next { s with
    mem := ((s.pushWord (s.pc + 2)).push (s.flags.pack true)).mem, sp := s.sp - 3
    flags := { s.flags with i := true }, pc := s.read16 Config.breakVector, cycles := s.cycles + 7 } := by
  rw [← Byte.sub_two_sub_one, ← Byte.sub_one_sub_one]
  exact congrArg Host.Outcome.next (State.enterBreak_eq (s.advance 1 7) s.pc)

/-- The state after an RTI: three pulls (R221). -/
theorem exec_rti (s : State) : exec .rti s = .next { s with
    sp := s.sp + 3, flags := Flags.unpack s.top, pc := s.popped.topWord, cycles := s.cycles + 6 } := by
  rw [← Byte.add_two_add_one, ← Byte.add_one_add_one]
  rfl

/-- The three cells that BRK pushes to, as they read at the handler (R220). -/
theorem State.read_pushWord_push (s : State) (w : Word) (v : Byte) :
    ((s.pushWord w).push v).read (stackAddr s.sp) = hiByte w ∧
    ((s.pushWord w).push v).read (stackAddr (s.sp - 1)) = loByte w ∧
    ((s.pushWord w).push v).read (stackAddr (s.sp - 2)) = v := by
  obtain ⟨h1, h2, h12⟩ := Byte.sub_distinct s.sp
  simp only [State.read, State.push_mem, State.pushWord_mem, State.pushWord_sp, Byte.sub_one_sub_one, Memory.read_write,
    stackAddr_inj, if_true, h1.symm, h2.symm, h12.symm, if_false, and_self]

/-- Settles O37: the three pushes, the vector as it stands before them, and I. -/
theorem brkEntersTheHandler : Obligations.BrkEntersTheHandler := by
  unfold Obligations.BrkEntersTheHandler
  intro s
  simp only [← hiByte_eq_ofNat, ← loByte_eq_ofNat, ← wordOfBytes_eq_ofNat, ← stackAddr_eq_stackCell]
  obtain ⟨hhi, hlo, hflags⟩ := State.read_pushWord_push s (s.pc + 2) (s.flags.pack true)
  obtain ⟨hframe, -⟩ := enterBreak_storesOnly s s.pc
  exact ⟨_, _, ⟨7, exec_brk s⟩, hhi, hlo, hflags, hframe, Flags.pack_bits s.flags true⟩

/-- Settles O38: the flags byte and then the word, as the three pulls deliver them. -/
theorem rtiReturns : Obligations.RtiReturns := by
  unfold Obligations.RtiReturns
  intro s v lo hi
  have hflags : Flags.unpack s.top = Flags.unpack v := by rw [State.top_eq]
  have hpc : s.popped.topWord = BitVec.ofNat 16 (256 * hi + lo) := by
    rw [State.topWord_eq, wordOfBytes_eq_ofNat, State.popped_sp, State.read_popped, State.read_popped,
      Byte.add_one_add_one, Byte.add_one_add_two]
  refine ⟨6, ?_⟩
  rw [exec_rti, hflags, hpc]
  rfl

/-- With the memory and the S of a pushed word and a byte above it, three pulls return the byte and then the word (R56). -/
theorem State.pulls_of_pushWord_push {s t : State} {w : Word} {v : Byte}
    (hmem : t.mem = ((s.pushWord w).push v).mem) (hsp : t.sp = s.sp - 3) : t.top = v ∧ t.popped.topWord = w := by
  obtain ⟨hhi, hlo, htop⟩ := State.read_pushWord_push s w v
  have h1 : s.sp - 3 + 1 = s.sp - 2 := by bv_omega
  have h2 : s.sp - 2 + 1 = s.sp - 1 := by bv_omega
  have h3 : s.sp - 1 + 1 = s.sp := by bv_omega
  simp only [State.topWord, State.top, State.popped_sp, State.read_popped, hsp, h1, h2, h3, State.read_congr hmem, hhi, hlo,
    htop, wordOfBytes_lo_hi, and_self]

/-- Settles O39: RTI pulls the three bytes that BRK pushed; the flags byte holds the flags of before BRK but for B. -/
theorem brkThenRtiResumes : Obligations.BrkThenRtiResumes := by
  unfold Obligations.BrkThenRtiResumes
  intro s
  obtain ⟨t, hbrk, hmem, hsp, ha, hx, hy⟩ : ∃ t, exec .brk s = .next t ∧
      t.mem = ((s.pushWord (s.pc + 2)).push (s.flags.pack true)).mem ∧ t.sp = s.sp - 3 ∧
      t.a = s.a ∧ t.x = s.x ∧ t.y = s.y :=
    ⟨_, exec_brk s, rfl, rfl, rfl, rfl, rfl⟩
  obtain ⟨htop, hword⟩ := State.pulls_of_pushWord_push hmem hsp
  refine ⟨t, _, hbrk, exec_rti t, hword, ?sp, ha, hx, hy, ?flags⟩
  case sp =>
    show t.sp + 3 = s.sp
    rw [hsp, BitVec.sub_add_cancel]
  case flags =>
    show Flags.unpack t.top = _
    rw [htop, Flags.unpack_pack]

/-- Settles O40: each row is one update of one flag. -/
theorem flagInstructionResults : Obligations.FlagInstructionResults := by
  unfold Obligations.FlagInstructionResults
  intro s
  exact ⟨⟨2, rfl⟩, ⟨2, rfl⟩, ⟨2, rfl⟩, ⟨2, rfl⟩, ⟨2, rfl⟩, ⟨2, rfl⟩, ⟨2, rfl⟩⟩

/-- Settles O41: NOP is the advance of PC and of the cycle counter alone. -/
theorem nopChangesOnlyThePc : Obligations.NopChangesOnlyThePc := fun _ => ⟨2, rfl⟩

end Sys2Proof.Machine

/-! The step and the engine (60_exceptions.md): a READY step executes the instruction at PC, no instruction but the illegal
descriptor writes the engine, and every step keeps the invariant. -/

namespace Sys2Proof.Machine

theorem exec_answers_next (i : Instr) (s : State) : ∃ t, exec i s = .next t := by
  obtain ⟨t, ht, -⟩ := exec_storesOnly i s
  exact ⟨t, ht⟩

/-- An instruction whose form stores to no cell keeps the memory (R114). -/
theorem exec_mem_of_storesNothing {i : Instr} {s t : State} (h : exec i s = .next t)
    (hcells : Claims.storedCells i s = []) : t.mem = s.mem := by
  obtain ⟨u, hu, -, hmem⟩ := exec_storesOnly i s
  obtain rfl := Host.Outcome.next.inj (h.symm.trans hu)
  exact hmem hcells

/-- Every instruction keeps the canonical form of memory: it stores through a write or a push, or not at all. -/
theorem exec_mem_wf {i : Instr} {s t : State} (h : exec i s = .next t) (hw : s.mem.wf = true) : t.mem.wf = true := by
  have hmem := exec_mem_of_storesNothing h
  unfold exec at h
  cases i with
  | staZp | staZpX | staAbs | staAbsX | staAbsY | staIndX | staIndY
  | stxZp | stxZpY | stxAbs | styZp | styZpX | styAbs =>
    exact withStore_next h ▸ State.write_wf (s := s.advance _ _) hw _ _
  | aslZp | aslZpX | aslAbs | aslAbsX | lsrZp | lsrZpX | lsrAbs | lsrAbsX
  | rolZp | rolZpX | rolAbs | rolAbsX | rorZp | rorZpX | rorAbs | rorAbsX =>
    exact withCell_next h ▸ State.shiftCell_wf (s := s.advance _ _) hw _ _
  | incZp | incZpX | incAbs | incAbsX | decZp | decZpX | decAbs | decAbsX =>
    exact withCell_next h ▸ State.storeCell_wf (s := s.advance _ _) hw _ _
  | pha | php => exact implied_next h ▸ State.push_wf (s := s.advance 1 3) hw _
  | jsr => exact Host.Outcome.next.inj h ▸ State.pushWord_wf (s := s.advance 3 6) hw _
  | brk => exact Host.Outcome.next.inj h ▸ State.enterBreak_wf (s := s.advance 1 7) hw _
  | _ => exact hmem rfl ▸ hw

/-- The byte at PC decides what executing the fetched instruction does to the engine (R241, R255). -/
theorem exec_fetch_of_illegal {s : State} (h : isIllegalOpcode (s.read s.pc) = true) :
    exec s.fetch s = .next (s.raiseIllegal (s.read s.pc)) := by
  rw [State.fetch, decodeAt_of_mem_illegal (isIllegalOpcode_iff.mp h)]
  rfl

theorem exec_fetch_of_legal {s t : State} (h : isIllegalOpcode (s.read s.pc) = false) (ht : exec s.fetch s = .next t) :
    t.engine = s.engine := by
  have hlegal : ∀ op, s.fetch ≠ .illegal op := fun op hop =>
    Bool.false_ne_true (h.symm.trans (isIllegalOpcode_iff.mpr (mem_illegal_of_decodeAt hop)))
  obtain ⟨u, hu, hengine⟩ := exec_engine_of_legal hlegal s
  obtain rfl := Host.Outcome.next.inj (ht.symm.trans hu)
  exact hengine

theorem State.faultShown_of_ready {s : State} (h : s.engine = .ready) : s.faultShown = true := by
  simp only [State.faultShown, h]

theorem State.faultShown_of_halted {s : State} (h : s.engine = .halted) : s.faultShown = true := by
  simp only [State.faultShown, h]

/-- The fault that an illegal byte at PC raises is shown: PC stays at the byte (R241, D11). -/
theorem State.raiseIllegal_faultShown {s : State} (h : isIllegalOpcode (s.read s.pc) = true) :
    (s.raiseIllegal (s.read s.pc)).faultShown = true := by
  have hread : (s.raiseIllegal (s.read s.pc)).read s.pc = s.read s.pc := rfl
  simp only [State.faultShown, State.raiseIllegal_engine, State.raiseIllegal_pc, hread, h, beq_self_eq_true, Bool.and_self]

/-- Executing the instruction at PC in READY leaves READY, or a fault that is shown (R241, R255). -/
theorem exec_fetch_faultShown {s t : State} (hr : s.engine = .ready) (h : exec s.fetch s = .next t) :
    t.faultShown = true := by
  cases hop : isIllegalOpcode (s.read s.pc) with
  | true =>
    rw [exec_fetch_of_illegal hop] at h
    exact Host.Outcome.next.inj h ▸ State.raiseIllegal_faultShown hop
  | false => exact State.faultShown_of_ready ((exec_fetch_of_legal hop h).trans hr)

/-- The three cases of a step keep the invariant: no change, a halt, the instruction at PC. -/
theorem step_keeps_inv {s t : State} (hinv : s.Inv) (h : step s = .next t) : t.Inv := by
  have ⟨hw, _⟩ := hinv
  obtain ⟨-, rfl⟩ | ⟨-, -, rfl⟩ | ⟨hr, -, hexec⟩ := step_cases h
  · exact hinv
  · exact ⟨hw, State.faultShown_of_halted rfl⟩
  · exact ⟨exec_mem_wf hexec hw, exec_fetch_faultShown hr hexec⟩

/-- Settles O46: memory stays canonical in every instruction, and the one fault is raised with PC at its byte. -/
theorem stepKeepsTheInvariant : Obligations.StepKeepsTheInvariant := by
  unfold Obligations.StepKeepsTheInvariant
  exact fun _ _ => step_keeps_inv

/-- Settles O42: the illegal descriptor is the entry to the fault alone. -/
theorem illegalOpcodeFaultsPrecisely : Obligations.IllegalOpcodeFaultsPrecisely := by
  unfold Obligations.IllegalOpcodeFaultsPrecisely
  exact fun _ _ => rfl

theorem step_answers_next (s : State) : ∃ t, step s = .next t := by
  by_cases hr : s.engine = .ready
  · cases hs : s.stop with
    | true => exact ⟨_, step_of_stop hr hs⟩
    | false => exact step_of_ready hr hs ▸ exec_answers_next s.fetch s
  · exact ⟨s, step_of_not_ready hr⟩

/-- Settles O44: an engine that does not execute answers a next state, and so does every instruction. -/
theorem everyStepAnswersNext : Obligations.EveryStepAnswersNext := step_answers_next

/-- Settles O45: a READY step without a stop request executes the byte at PC, which decides the engine. -/
theorem engineTransitionsAreExact : Obligations.EngineTransitionsAreExact := by
  unfold Obligations.EngineTransitionsAreExact
  intro s
  refine ⟨step_of_not_ready, step_of_stop, fun hr hs => ?_⟩
  obtain ⟨t, ht⟩ := exec_answers_next s.fetch s
  refine ⟨t, (step_of_ready hr hs).trans ht, ?_⟩
  cases hop : isIllegalOpcode (s.read s.pc) with
  | true =>
    obtain rfl := Host.Outcome.next.inj ((exec_fetch_of_illegal hop).symm.trans ht)
    rfl
  | false => exact (exec_fetch_of_legal hop ht).trans hr

/-! What a READY step executes (R62, R82, R254). -/

theorem step_of_decode {s : State} {i : Instr} {rest : List Byte} (hr : s.engine = .ready) (hs : s.stop = false)
    (h : decode [s.read s.pc, s.read (s.pc + 1), s.read (s.pc + 2)] = .ok (i, rest)) : step s = exec i s := by
  rw [step_of_ready hr hs, State.fetch, decodeAt_of_decode h]

/-- Settles O6: the fetch reads from three bytes what the decoder reads from them. -/
theorem stepRunsTheDecodedInstruction : Obligations.StepRunsTheDecodedInstruction := by
  unfold Obligations.StepRunsTheDecodedInstruction
  exact fun _ _ _ => step_of_decode

/-- Three bytes placed at PC are the three that the next fetch reads (R62, R64). -/
theorem State.fetchedBytes_placeAtPc (s : State) (b0 b1 b2 : Byte) :
    let t := s.placeAtPc [b0, b1, b2]
    [t.read t.pc, t.read (t.pc + 1), t.read (t.pc + 2)] = [b0, b1, b2] := by
  have hplaced := Memory.read_writeImage s.mem s.pc [b0, b1, b2] (show 3 ≤ 65536 by decide)
  have h0 := hplaced 0 (show 0 < 3 by decide)
  have h1 := hplaced 1 (show 1 < 3 by decide)
  have h2 := hplaced 2 (show 2 < 3 by decide)
  rw [BitVec.add_zero] at h0
  exact congrArg₂ List.cons h0 (congrArg₂ List.cons h1 (congrArg (fun b => [b]) h2))

/-- The decoder reads a table word from its three bytes. -/
theorem decode_tableBytes {nbits w : Nat} {i : Instr} (h : decodeTableWord nbits w = some i) :
    ∃ rest, decode (tableBytes nbits w) = .ok (i, rest) := by
  unfold decodeTableWord at h
  split at h
  · rename_i j rest hdecode
    obtain rfl := Option.some.inj h
    exact ⟨rest, hdecode⟩
  · cases h

/-- Settles O7: placing makes the engine READY with no stop request, and the fetch reads the three placed bytes. -/
theorem placedTableWordIsRun : Obligations.PlacedTableWordIsRun := by
  unfold Obligations.PlacedTableWordIsRun
  intro s nbits w i h
  obtain ⟨rest, hdecode⟩ := decode_tableBytes h
  refine step_of_decode (rest := rest) rfl rfl ?_
  rw [← hdecode]
  exact congrArg decode (State.fetchedBytes_placeAtPc s _ _ _)

end Sys2Proof.Machine

/-! Cycles (70_reset_and_hazards.md, R276): what each class of instruction counts, against the registry's numbers. -/

namespace Sys2Proof.Machine

/-- The page-crossing test of the model is the one on the low byte of the base (R115). -/
theorem hiByte_ne_toNat_eq_crossing (base : Word) (index : Byte) :
    (hiByte (base + zext16 index) != hiByte base).toNat = Claims.crossing base index := by
  have hcross := pageCrossingTestsAgree base index
  rw [loByte_toNat] at hcross
  by_cases h : 255 < base.toNat % 256 + index.toNat
  · rw [Claims.crossing, if_pos h, bne_iff_ne.mpr (hcross.mpr h)]
    rfl
  · rw [Claims.crossing, if_neg h, bne_eq_false_iff_eq.mpr (not_ne_iff.mp (mt hcross.mp h))]
    rfl

section
variable {n : Nat} {s : State}

theorem withImmediate_cycles {op : State → Byte → State} {v : Byte} (hop : ∀ s v, (op s v).cycles = s.cycles) :
    ∃ t, withImmediate op n v s = .next t ∧ t.cycles = s.cycles + n + 0 :=
  ⟨_, rfl, hop _ _⟩

/-- A row that reads through a mode counts one more where the mode crosses a page (R115, D23). -/
theorem withOperand_cycles {op : State → Byte → State} {m : AddrMode} {extra : Nat}
    (hop : ∀ s v, (op s v).cycles = s.cycles) (hextra : (m.pageCrossed s).toNat = extra) :
    ∃ t, withOperand op n m s = .next t ∧ t.cycles = s.cycles + n + extra :=
  ⟨_, rfl, by rw [hop, hextra, State.advance_cycles, Nat.add_assoc]⟩

theorem withCell_cycles {op : State → Word → State} {m : AddrMode} (hop : ∀ s addr, (op s addr).cycles = s.cycles) :
    ∃ t, withCell op n m s = .next t ∧ t.cycles = s.cycles + n + 0 :=
  ⟨_, rfl, hop _ _⟩

theorem withStore_cycles {v : Byte} {m : AddrMode} :
    ∃ t, withStore v n m s = .next t ∧ t.cycles = s.cycles + n + 0 :=
  ⟨_, rfl, rfl⟩

theorem implied_cycles {op : State → State} (hop : ∀ s, (op s).cycles = s.cycles) :
    ∃ t, implied op n s = .next t ∧ t.cycles = s.cycles + n + 0 :=
  ⟨_, rfl, hop _⟩

/-- A branch counts one more when it is taken (R276, D23). -/
theorem branch_cycles {cond : Bool} {off : Byte} :
    ∃ t, branch cond off s = .next t ∧ t.cycles = s.cycles + 2 + cond.toNat :=
  ⟨_, rfl, (Nat.add_assoc _ _ _).symm⟩

end

/-! The registry's base counts (R84; D17). -/

theorem decodeAt_eq_illegal_iff_mode (op : Byte) : decodeAt op 0 0 = .illegal op ↔ (registry op).mode = .illegal := by
  revert op; decide

theorem isIllegalOpcode_iff_mode {op : Byte} : isIllegalOpcode op = true ↔ (registry op).mode = .illegal := by
  rw [isIllegalOpcode_iff, ← decodeAt_eq_illegal_iff_mode]
  exact ⟨fun h => decodeAt_of_mem_illegal h 0 0, mem_illegal_of_decodeAt⟩

theorem registry_cycles_of_illegal (op : Byte) : (registry op).mode = .illegal → (registry op).cycles = 0 := by
  revert op; decide

/-- A legal entry has room for its extra cycle, where it has one. -/
theorem registry_cycles_of_legal (op : Byte) : (registry op).mode ≠ .illegal →
    2 ≤ (registry op).cycles ∧ (registry op).cycles + (if (registry op).extra = .none then 0 else 1) ≤ 7 := by
  revert op; decide

/-! What each instruction counts. -/

/-- The base count of the registry entry, in each class of rows; the extra cycle of the 23 rows that read through an indexed
base, and of the branches. -/
theorem exec_cycles {i : Instr} (hwf : i.wf = true) (s : State) : ∃ t, exec i s = .next t ∧
    t.cycles = s.cycles + (Claims.entryOf i).cycles + Claims.extraCycles i s := by
  unfold exec
  cases i with
  | adcImm | sbcImm | andImm | oraImm | eorImm | cmpImm | cpxImm | cpyImm | ldaImm | ldxImm | ldyImm =>
    exact withImmediate_cycles fun _ _ => rfl
  | adcZp | adcZpX | adcAbs | adcIndX | sbcZp | sbcZpX | sbcAbs | sbcIndX | andZp | andZpX | andAbs | andIndX
  | oraZp | oraZpX | oraAbs | oraIndX | eorZp | eorZpX | eorAbs | eorIndX | bitZp | bitAbs
  | cmpZp | cmpZpX | cmpAbs | cmpIndX | cpxZp | cpxAbs | cpyZp | cpyAbs | ldaZp | ldaZpX | ldaAbs | ldaIndX
  | ldxZp | ldxZpY | ldxAbs | ldyZp | ldyZpX | ldyAbs =>
    exact withOperand_cycles (fun _ _ => rfl) rfl
  | adcAbsX | adcAbsY | adcIndY | sbcAbsX | sbcAbsY | sbcIndY | andAbsX | andAbsY | andIndY
  | oraAbsX | oraAbsY | oraIndY | eorAbsX | eorAbsY | eorIndY | cmpAbsX | cmpAbsY | cmpIndY
  | ldaAbsX | ldaAbsY | ldaIndY | ldxAbsY | ldyAbsX =>
    exact withOperand_cycles (fun _ _ => rfl) (hiByte_ne_toNat_eq_crossing _ _)
  | aslZp | aslZpX | aslAbs | aslAbsX | lsrZp | lsrZpX | lsrAbs | lsrAbsX
  | rolZp | rolZpX | rolAbs | rolAbsX | rorZp | rorZpX | rorAbs | rorAbsX
  | incZp | incZpX | incAbs | incAbsX | decZp | decZpX | decAbs | decAbsX =>
    exact withCell_cycles fun _ _ => rfl
  | staZp | staZpX | staAbs | staAbsX | staAbsY | staIndX | staIndY
  | stxZp | stxZpY | stxAbs | styZp | styZpX | styAbs =>
    exact withStore_cycles
  | aslAcc | lsrAcc | rolAcc | rorAcc | inx | dex | iny | dey | tax | txa | tay | tya | tsx | txs | pha | pla | php | plp
  | rts | rti | clc | sec | cli | sei | clv | cld | sed | nop =>
    exact implied_cycles fun _ => rfl
  | bcc | bcs | beq | bne | bpl | bmi | bvc | bvs => exact branch_cycles
  | jmpAbs | jmpInd | jsr | brk => exact ⟨_, rfl, rfl⟩
  | illegal op =>
    have hnone := registry_cycles_of_illegal op (isIllegalOpcode_iff_mode.mp hwf)
    exact ⟨_, rfl, congrArg (s.cycles + ·) hnone.symm⟩

theorem crossing_le_one (base : Word) (index : Byte) : Claims.crossing base index ≤ 1 := by
  unfold Claims.crossing
  split <;> decide

/-- The extra cycle is one at most, and only a row that the registry marks has it (R83, R276). -/
theorem extraCycles_le (i : Instr) (s : State) :
    Claims.extraCycles i s ≤ if (Claims.entryOf i).extra = .none then 0 else 1 := by
  cases i with
  | adcAbsX | adcAbsY | adcIndY | sbcAbsX | sbcAbsY | sbcIndY | andAbsX | andAbsY | andIndY
  | oraAbsX | oraAbsY | oraIndY | eorAbsX | eorAbsY | eorIndY | cmpAbsX | cmpAbsY | cmpIndY
  | ldaAbsX | ldaAbsY | ldaIndY | ldxAbsY | ldyAbsX => exact crossing_le_one _ _
  | bcc | bcs | beq | bne | bpl | bmi | bvc | bvs => exact Bool.toNat_le _
  | _ => exact Nat.zero_le _

theorem entryOf_of_encode {i : Instr} {op : Byte} {rest : List Byte} (h : encode i = op :: rest) :
    Claims.entryOf i = registry op := by
  rw [Claims.entryOf, h]

theorem entryOf_of_legal {i : Instr} (h : (Claims.entryOf i).mode ≠ .illegal) :
    ∃ op, Claims.entryOf i = registry op := by
  cases he : encode i with
  | nil => exact absurd (by rw [Claims.entryOf, he]; rfl) h
  | cons op rest => exact ⟨op, entryOf_of_encode he⟩

/-- A legal entry with its extra cycle counts 2 to 7 (R254). -/
theorem legal_cycles_bounds {i : Instr} (s : State) (h : (Claims.entryOf i).mode ≠ .illegal) :
    2 ≤ (Claims.entryOf i).cycles ∧ (Claims.entryOf i).cycles + Claims.extraCycles i s ≤ 7 := by
  have hextra := extraCycles_le i s
  obtain ⟨op, hop⟩ := entryOf_of_legal h
  rw [hop] at h hextra ⊢
  obtain ⟨hmin, hmax⟩ := registry_cycles_of_legal op h
  exact ⟨hmin, (Nat.add_le_add_left hextra _).trans hmax⟩

/-- Settles O43: the count of each row, with the registry's bounds. -/
theorem cyclesChargedByTheTable : Obligations.CyclesChargedByTheTable := by
  unfold Obligations.CyclesChargedByTheTable
  intro i s hwf
  obtain ⟨t, ht, hcycles⟩ := exec_cycles hwf s
  exact ⟨t, ht, hcycles, legal_cycles_bounds s⟩

/-- The fetched instruction is well-formed and its entry is that of the byte at PC (R80, R87). -/
theorem State.fetch_wf_and_entryOf (s : State) : s.fetch.wf = true ∧ Claims.entryOf s.fetch = registry (s.read s.pc) := by
  obtain ⟨hwf, hencode⟩ := decodeAt_wf_and_encode (s.read s.pc) (s.read (s.pc + 1)) (s.read (s.pc + 2))
  exact ⟨hwf, entryOf_of_encode hencode⟩

/-- The instruction at PC counts 2 to 7 cycles if its byte is legal (R276). -/
theorem exec_fetch_cycles {s t : State} (hop : isIllegalOpcode (s.read s.pc) = false) (ht : exec s.fetch s = .next t) :
    ∃ n, t.cycles = s.cycles + n ∧ 2 ≤ n ∧ n ≤ 7 := by
  obtain ⟨hwf, hentry⟩ := s.fetch_wf_and_entryOf
  have hlegal : (Claims.entryOf s.fetch).mode ≠ .illegal := fun hmode =>
    Bool.false_ne_true (hop.symm.trans (isIllegalOpcode_iff_mode.mpr (hentry ▸ hmode)))
  obtain ⟨hmin, hmax⟩ := legal_cycles_bounds s hlegal
  obtain ⟨u, hu, hcycles⟩ := exec_cycles hwf s
  obtain rfl := Host.Outcome.next.inj (ht.symm.trans hu)
  exact ⟨_, hcycles.trans (Nat.add_assoc _ _ _), Nat.le_add_right_of_le hmin, hmax⟩

/-- What a step counts: 2 to 7 cycles if it leaves the engine in READY, else none (R254; D11, D12, D13). -/
theorem step_cycles {s t : State} (h : step s = .next t) : ∃ n, t.cycles = s.cycles + n ∧
    (t.engine = .ready → 2 ≤ n ∧ n ≤ 7) ∧ (t.engine ≠ .ready → n = 0) := by
  obtain ⟨hr, rfl⟩ | ⟨-, -, rfl⟩ | ⟨hr, -, hexec⟩ := step_cases h
  · exact ⟨0, rfl, fun he => absurd he hr, fun _ => rfl⟩
  · exact ⟨0, rfl, fun he => absurd he nofun, fun _ => rfl⟩
  · cases hop : isIllegalOpcode (s.read s.pc) with
    | true =>
      obtain rfl := Host.Outcome.next.inj ((exec_fetch_of_illegal hop).symm.trans hexec)
      exact ⟨0, rfl, fun he => absurd he nofun, fun _ => rfl⟩
    | false =>
      obtain ⟨n, hcycles, hbounds⟩ := exec_fetch_cycles hop hexec
      exact ⟨n, hcycles, fun _ => hbounds, fun he => absurd ((exec_fetch_of_legal hop hexec).trans hr) he⟩

/-- Settles O51: the report is the growth of the counter. -/
theorem stepResultReportsTheStep : Obligations.StepResultReportsTheStep := by
  unfold Obligations.StepResultReportsTheStep
  intro s t h
  obtain ⟨n, hcycles, hready, hother⟩ := step_cycles h
  have hreport : (StepResult.of s t).cycles = n := by rw [StepResult.of, hcycles, Nat.add_sub_cancel_left]
  rw [hreport]
  exact ⟨rfl, hcycles, hready, hother⟩

end Sys2Proof.Machine

/-! The host and whole runs (60_exceptions.md, R255 to R257; 70_reset_and_hazards.md): schedules of the host's acts, run to
completion, and the state after reset. -/

namespace Sys2Proof.Machine

/-- Settles O47: a supplied memory is canonical, and `State.reset` is the reset over one of them. -/
theorem resetHasTheInvariant : Obligations.ResetHasTheInvariant := by
  unfold Obligations.ResetHasTheInvariant
  have hreset : ∀ mem0 : Word → Byte, (State.resetOver mem0).Inv := fun mem0 => ⟨Memory.supplied_wf mem0, rfl⟩
  exact ⟨hreset, State.reset_eq_resetOver ▸ hreset _⟩

/-- Settles O56: registers and flags are one record, a cell is one write. -/
theorem hostWritesAreExact : Obligations.HostWritesAreExact := by
  unfold Obligations.HostWritesAreExact
  intro s
  refine ⟨fun r => rfl, fun addr v => ?_⟩
  obtain ⟨hsame, hother, hframe⟩ := memoryWriteReplacesOneCell s addr v
  exact ⟨s.write addr v, rfl, hframe, hsame, hother⟩

/-! Schedules, one act at a time. -/

theorem runCalls_cons_of_next {call : HostCall} {s t : State} (h : hostCall call s = .next t) (calls : List HostCall) :
    runCalls (call :: calls) s = runCalls calls t := by
  rw [runCalls, h]

theorem runCalls_cons_of_refused {call : HostCall} {s : State} {r : Refusal} (h : hostCall call s = .refused r)
    (calls : List HostCall) : runCalls (call :: calls) s = runCalls calls s := by
  rw [runCalls, h]

/-- The stop input is no part of the invariant, so a step at either level keeps it. -/
theorem hostCall_step_keeps_inv {level : Bool} {s t : State} (hinv : s.Inv) (h : hostCall (.step level) s = .next t) :
    t.Inv :=
  step_keeps_inv (s := { s with stop := level }) hinv h

/-- Settles O57, by induction on the schedule: every act is a step, and a step answers a next state with the invariant. -/
theorem runsKeepTheInvariant : Obligations.RunsKeepTheInvariant := by
  unfold Obligations.RunsKeepTheInvariant
  intro calls
  induction calls with
  | nil => exact fun _ _ hinv => hinv
  | cons call calls ih =>
    intro s hsteps hinv
    obtain ⟨hstep, hrest⟩ := Bool.and_eq_true_iff.mp hsteps
    cases call with
    | step level =>
      obtain ⟨t, ht⟩ : ∃ t, hostCall (.step level) s = .next t := step_answers_next _
      rw [runCalls_cons_of_next ht]
      exact ih t hrest (hostCall_step_keeps_inv hinv ht)
    | load | poke | writeRegisters | create => cases hstep

/-! A faulted run (R255, D12). -/

/-- An act other than creation, at a FAULTED engine: the schedule goes on with the same fault and cycle count, and with the
registers as they were, or as that act wrote them. -/
theorem runCalls_cons_of_faulted {call : HostCall} {s : State} {r : Fault} (hcreate : call ≠ .create)
    (hfault : s.engine = .faulted r) (calls : List HostCall) :
    ∃ t, runCalls (call :: calls) s = runCalls calls t ∧ t.engine = .faulted r ∧ t.cycles = s.cycles ∧
      Claims.lastWritten (call :: calls) s.registers = Claims.lastWritten calls t.registers := by
  cases call with
  | load base image =>
    by_cases hfit : base.toNat + image.length ≤ Config.memorySize
    · have hload : hostCall (.load base image) s = .next _ := load_of_fits hfit s
      exact ⟨_, runCalls_cons_of_next hload calls, hfault, rfl, rfl⟩
    · have hload : hostCall (.load base image) s = .refused _ := load_of_not_fits (Nat.lt_of_not_le hfit) s
      exact ⟨s, runCalls_cons_of_refused hload calls, hfault, rfl, rfl⟩
  | poke addr v => exact ⟨s.write addr v, rfl, hfault, rfl, rfl⟩
  | writeRegisters w => exact ⟨s.withRegisters w, rfl, hfault, rfl, rfl⟩
  | step level =>
    have hready : { s with stop := level }.engine ≠ .ready := hfault ▸ nofun
    have hstep : hostCall (.step level) s = .next { s with stop := level } := step_of_not_ready hready
    exact ⟨_, runCalls_cons_of_next hstep calls, hfault, rfl, rfl⟩
  | create => exact absurd rfl hcreate

theorem runCalls_of_faulted {calls : List HostCall} {s : State} {r : Fault} (hcreate : HostCall.create ∉ calls)
    (hfault : s.engine = .faulted r) : (runCalls calls s).engine = .faulted r ∧ (runCalls calls s).cycles = s.cycles ∧
      (runCalls calls s).registers = Claims.lastWritten calls s.registers := by
  induction calls generalizing s with
  | nil => exact ⟨hfault, rfl, rfl⟩
  | cons call calls ih =>
    have hne : call ≠ .create := (List.ne_of_not_mem_cons hcreate).symm
    have hrest : HostCall.create ∉ calls := List.not_mem_of_not_mem_cons hcreate
    obtain ⟨t, hrun, hfault', hcycles, hwritten⟩ := runCalls_cons_of_faulted hne hfault calls
    rw [hrun, hwritten, ← hcycles]
    exact ih hrest hfault'

/-- A schedule in which the host writes no register. -/
theorem lastWritten_of_unwritten {calls : List HostCall} (h : ∀ w, HostCall.writeRegisters w ∉ calls) (r : Registers) :
    Claims.lastWritten calls r = r := by
  induction calls with
  | nil => rfl
  | cons call calls ih =>
    have hrest : ∀ w, HostCall.writeRegisters w ∉ calls := fun w => List.not_mem_of_not_mem_cons (h w)
    cases call with
    | writeRegisters w => exact absurd List.mem_cons_self (h w)
    | load | poke | step | create => exact ih hrest

/-- Settles O50: the registers and flags are the last ones written, which are those at the start if there are none. -/
theorem faultedIsAbsorbing : Obligations.FaultedIsAbsorbing := by
  unfold Obligations.FaultedIsAbsorbing
  intro calls s r hcreate hfault
  obtain ⟨hengine, hcycles, hregisters⟩ := runCalls_of_faulted hcreate hfault
  refine ⟨hengine, hcycles, hregisters, fun hunwritten => ?_⟩
  have hsame := hregisters.trans (lastWritten_of_unwritten hunwritten s.registers)
  exact ⟨congrArg Registers.a hsame, congrArg Registers.x hsame, congrArg Registers.y hsame,
    congrArg Registers.sp hsame, congrArg Registers.pc hsame, congrArg Registers.flags hsame⟩

/-! Run to completion (R257). -/

/-- The run is over at `s`: the end of the run, or an engine that executes nothing (R257, R277). -/
def RunOver (done : State → Bool) (s : State) : Prop := done s = true ∨ s.engine ≠ .ready

theorem not_runOver_iff {done : State → Bool} {s : State} :
    ¬ RunOver done s ↔ done s = false ∧ s.engine = .ready := by
  rw [RunOver, not_or, Bool.not_eq_true, not_ne_iff]

theorem runUntil_of_runOver {done : State → Bool} {s : State} (h : RunOver done s) (n : Nat) :
    runUntil done n s = .next s := by
  cases n with
  | zero => rfl
  | succ n =>
    have hstop : (done s || s.engine != .ready) = true := Bool.or_eq_true_iff.mpr (h.imp_right bne_iff_ne.mpr)
    rw [runUntil, if_pos hstop]

theorem runUntil_succ_of_step {done : State → Bool} {s u : State} (hdone : done s = false) (hr : s.engine = .ready)
    (hu : step s = .next u) (n : Nat) : runUntil done (n + 1) s = runUntil done n u := by
  have hgo : ¬ (done s || s.engine != .ready) = true := by simp [hdone, hr]
  rw [runUntil, if_neg hgo, hu]

/-- Run to completion answers a state, and more steps allowed give the same one if the run is over there. -/
theorem runUntil_answers (done : State → Bool) (n : Nat) (s : State) : ∃ t, runUntil done n s = .next t ∧
    (RunOver done s → t = s) ∧ (RunOver done t → ∀ k, runUntil done (n + k) s = .next t) := by
  induction n generalizing s with
  | zero => exact ⟨s, rfl, fun _ => rfl, fun hover k => runUntil_of_runOver hover _⟩
  | succ n ih =>
    by_cases hover : RunOver done s
    · exact ⟨s, runUntil_of_runOver hover _, fun _ => rfl, fun _ k => runUntil_of_runOver hover _⟩
    · obtain ⟨hdone, hr⟩ := not_runOver_iff.mp hover
      obtain ⟨u, hu⟩ := step_answers_next s
      obtain ⟨t, ht, -, hlonger⟩ := ih u
      refine ⟨t, (runUntil_succ_of_step hdone hr hu n).trans ht, fun h => absurd h hover, fun hend k => ?_⟩
      rw [Nat.add_right_comm, runUntil_succ_of_step hdone hr hu, hlonger hend]

/-- Settles O52: the equations of `runUntil`, and its answer by induction on the bound. -/
theorem runsEndWhereTheySay : Obligations.RunsEndWhereTheySay := by
  unfold Obligations.RunsEndWhereTheySay
  intro done n s
  refine ⟨rfl, fun hdone hr => ?_, runUntil_answers done n s⟩
  obtain ⟨u, hu⟩ := step_answers_next s
  exact ⟨u, hu, runUntil_succ_of_step hdone hr hu n⟩

end Sys2Proof.Machine
